-- ==== Sys2Proof/Word.lean ====
section
/-! DEFINITION. The two word types of the machine (spec/00_scope.md R6, R9): a byte and a 16-bit address. -/

namespace Sys2Proof

/-- A byte: data, the registers A, X, Y, S and P (R6). -/
abbrev Byte := BitVec 8

/-- A 16-bit processor address, and the program counter (R6). -/
abbrev Addr := BitVec 16

/-- A 13-bit picture-memory address of the pattern space (R6, R50). -/
abbrev PatternAddr := BitVec 13

/-- A 12-bit nametable-relative address (R6, R50). -/
abbrev NametableAddr := BitVec 12

end Sys2Proof
end

