-- ==== Sys2Proof/Config.lean ====
section
/-! DEFINITION. What an implementation fixes, and the free values (spec/00_scope.md R7, spec/92_eei_decisions.md).

The five parameters with a default the reader may change are the fields of `Params`; the four open parameters whose
value no source gives are constants without a body, so that a claim about the machine holds whatever they are. The two
open parameters that are contents, CART and RAM_INIT, are arguments of `State.powerOn`. -/

namespace Sys2Proof

/-- The external devices that answer register reads (spec/20_memory.md R62). -/
inductive Device where
  /-- The picture unit: registers 0 to 7 and 0x14. -/
  | ppu
  /-- The audio unit: registers named by their bus address. -/
  | apu
  deriving DecidableEq, Repr

/-- One thing that happened at an external interface. Rule R62 of spec/20_memory.md asks that every device read and
write is recorded; the picture unit's own calls (spec/60_exceptions.md R278) are recorded beside them, so that what
the picture unit has seen is part of the history its answers may depend on (log 3). -/
inductive Event where
  /-- A bus read of a device register and the byte it answered. -/
  | devRead (d : Device) (reg : Nat) (v : Byte)
  /-- A bus write of a device register. -/
  | devWrite (d : Device) (reg : Nat) (v : Byte)
  /-- A byte the picture unit read over the bus for OAM-DMA. -/
  | oamRead (a : Addr) (v : Byte)
  /-- A byte the picture unit read in the pattern space. -/
  | vramRead (a : PatternAddr) (v : Byte)
  /-- A byte the picture unit wrote in the pattern space. -/
  | vramWrite (a : PatternAddr) (v : Byte)
  /-- The sixteen bytes of a tile the picture unit read. -/
  | tileRead (a : PatternAddr) (vs : List Byte)
  /-- A byte the picture unit read in the nametable space. -/
  | ntRead (r : NametableAddr) (v : Byte)
  /-- A byte the picture unit wrote in the nametable space. -/
  | ntWrite (r : NametableAddr) (v : Byte)
  /-- A call of the mapper's `Hook`. -/
  | hook (a : Addr)
  /-- A call of `RequestInterrupt(NMI)`. -/
  | nmi
  deriving DecidableEq, Repr

/-- What has happened so far at the external interfaces: the events, newest first, and the number of `PPU.Step()`
calls made. It is the `history` argument of DEVICE_READ (R7, R62). -/
structure History where
  events : List Event
  ppuSteps : Nat
  deriving DecidableEq, Repr

/-- The parameters of R7 that have a default: D29 to D33 of spec/92_eei_decisions.md (log 7). -/
structure Params where
  /-- UNROM_PRG_MASK (D29). -/
  unromPrgMask : Byte := 0x0F#8
  /-- CNROM_CHR_MASK (D30). -/
  cnromChrMask : Byte := 0x03#8
  /-- AXROM_PRG_MASK (D31). -/
  axromPrgMask : Byte := 0x07#8
  /-- AXROM_MIRROR_BIT (D31): a bit number. -/
  axromMirrorBit : Nat := 4
  /-- MMC2_LATCH_INIT (D33): whether both latches start at 0xFE (true) or 0xFD (false). -/
  mmc2LatchInitFE : Bool := true
  deriving DecidableEq, Repr

namespace Config

/-- DEVICE_READ: the byte an external device answers to a register read (R62, D22, OPEN; log 3). A free value. -/
opaque deviceRead : Device → Nat → History → Byte

/-- OAM_DMA_STALL: the cycles a write of 0x4014 adds to its step (R60, D24, OPEN; log 4). A free value. -/
opaque oamDmaStall : Nat

/-- PAD_TAIL(p, n): what a controller read answers when pad `p`'s counter is `n` in 8 to 23 (R93, D39, OPEN; log 5).
A free value. -/
opaque padTail : Nat → Nat → Byte

/-- MMC5_PRG_MAP: the index of `prg` an address of 0x8000 to 0xFFFF reads through the MMC5 stub (R311, D35, OPEN;
log 6). A free value. -/
opaque mmc5PrgMap : Nat → Nat

end Config

end Sys2Proof
end

