-- ==== Sys2Proof/Machine/State.lean ====
section
/-! DEFINITION. Everything the spec gives the machine, as plain data (spec/10_state.md R20 to R44, the mapper registers
of spec/60_exceptions.md R286 to R312), the external agents' choices still to come (R278, R279), and the reasons a step
can stop. -/

namespace Sys2Proof.Machine

/-- A store of bytes by address: addresses strictly rising, no entry equal to what an unlisted address reads as
(`Memory.wf`, Machine/Memory.lean). -/
abbrev Memory := List Host.Cell

/-! ## The processor -/

/-- The seven stored bits of the status byte (R27, R28: bit 5 has no storage). -/
structure Flags where
  /-- Carry, bit 0. -/
  c : Bool
  /-- Zero, bit 1. -/
  z : Bool
  /-- IRQ-disable, bit 2. -/
  i : Bool
  /-- Decimal, bit 3. -/
  d : Bool
  /-- Break, bit 4. -/
  b : Bool
  /-- Overflow, bit 6. -/
  v : Bool
  /-- Negative, bit 7. -/
  n : Bool
  deriving DecidableEq, Repr

/-- The processor's registers (R20). -/
structure Cpu where
  a : Byte
  x : Byte
  y : Byte
  /-- The stack pointer S (R24). -/
  sp : Byte
  pc : Addr
  f : Flags
  deriving DecidableEq, Repr

/-- The three pending marks (R33). -/
structure Pending where
  reset : Bool
  nmi : Bool
  irq : Bool
  deriving DecidableEq, Repr

/-! ## The nametables and the controller port -/

/-- The mirroring mode (R39; spec/20_memory.md R87). -/
inductive Mirroring where
  | horizontal | vertical | singleScreenUpper | singleScreenLower
  deriving DecidableEq, Repr

/-- The controller port (R40). Bit `k` of `buttons` is `buttons[k]`. -/
structure Pads where
  buttons : BitVec 16
  strobe : Bool
  rd0 : Nat
  rd1 : Nat
  deriving DecidableEq, Repr

/-! ## The cartridge -/

/-- The mapper variants (spec/60_exceptions.md R281). -/
inductive Variant where
  | nrom | mmc1 | unrom | cnrom | mmc3 | mmc5 | axrom | mmc2
  deriving DecidableEq, Repr

/-- The cartridge's header fields and its PRG-ROM; none of it ever changes (R41, R42; spec/60_exceptions.md R280). -/
structure Cart where
  /-- The number of 16 KiB PRG banks (header byte 4). -/
  prg16 : Nat
  /-- The number of 8 KiB CHR banks (header byte 5); 0 means CHR-RAM. -/
  chr8 : Nat
  /-- Header byte 6 bit 0: initial mirroring Vertical. -/
  vertical : Bool
  /-- Header byte 6 bit 1: battery-backed. -/
  battery : Bool
  /-- The PRG-ROM, `16384 * prg16` bytes. -/
  prg : Memory
  deriving DecidableEq, Repr

/-- MMC1 registers (R292). -/
structure Mmc1 where
  shift : BitVec 5
  count : Nat
  control : BitVec 5
  chr0 : BitVec 5
  chr1 : BitVec 5
  prgreg : BitVec 5
  deriving DecidableEq, Repr

/-- The two values of an MMC2 latch (R299). -/
inductive Latch where
  /-- 0xFD. -/
  | fd
  /-- 0xFE. -/
  | fe
  deriving DecidableEq, Repr

/-- MMC2 registers (R299). -/
structure Mmc2 where
  prgsel : BitVec 4
  chrFD0 : BitVec 5
  chrFE0 : BitVec 5
  chrFD1 : BitVec 5
  chrFE1 : BitVec 5
  latch0 : Latch
  latch1 : Latch
  deriving DecidableEq, Repr

/-- MMC3 registers (R304); `r0` to `r7` are `R[0]` to `R[7]`. -/
structure Mmc3 where
  bsel : Byte
  r0 : Byte
  r1 : Byte
  r2 : Byte
  r3 : Byte
  r4 : Byte
  r5 : Byte
  r6 : Byte
  r7 : Byte
  irqLatch : Byte
  irqCounter : Byte
  irqReload : Bool
  irqEnable : Bool
  deriving DecidableEq, Repr

/-- The registers of the active mapper variant: one constructor per variant (R35, R312). -/
inductive MapperState where
  | nrom
  | unrom (sel : Byte)
  | cnrom (csel : Byte)
  | axrom (sel : Byte)
  | mmc1 (m : Mmc1)
  | mmc2 (m : Mmc2)
  | mmc3 (m : Mmc3)
  | mmc5
  deriving DecidableEq, Repr

/-! ## The scheduler -/

/-- The scheduler (R34; spec/60_exceptions.md R275, R276). -/
structure Sched where
  /-- Processor cycles not yet matched by picture-unit steps. -/
  acc : Nat
  /-- The host's stop flag. -/
  stop : Bool
  /-- The scheduler stands at the top of an iteration, where `stop` is read (log 11). -/
  atTop : Bool
  deriving DecidableEq, Repr

/-! ## The external agents -/

/-- A call the picture unit may make, other than `Hook` (spec/60_exceptions.md R278). -/
inductive PpuCall where
  | readVram (a : PatternAddr)
  | writeVram (a : PatternAddr) (v : Byte)
  | readTile (a : PatternAddr)
  | ntRead (r : NametableAddr)
  | ntWrite (r : NametableAddr) (v : Byte)
  | requestNmi
  deriving DecidableEq, Repr

/-- What the picture unit does in one `PPU.Step()`: any calls, with at most one `Hook` among them (R278). -/
structure Dot where
  before : List PpuCall
  hook : Option Addr
  after : List PpuCall
  deriving DecidableEq, Repr

/-- What the host and the input agent may do at an instruction boundary (R279), and the external IRQ request that
spec/93_implementation_defined.md U11 lets a model admit (log 17). -/
inductive BoundaryCall where
  | requestReset
  | requestIrq
  | setStop
  | setButtons (b : BitVec 16)
  deriving DecidableEq, Repr

/-- The external agents' choices still to come, as lists the step reads; an empty list is an agent that does nothing
(log 8). -/
structure Env where
  /-- One entry for each instruction boundary. -/
  boundary : List (List BoundaryCall)
  /-- One entry for each processor step that accessed a picture-unit register: the calls made on its account. -/
  reactions : List (List Dot)
  /-- One entry for each processor step that wrote 0x4014: the offsets the picture unit reads in the page written. -/
  oamReads : List (List Byte)
  /-- One entry for each `PPU.Step()`. -/
  dots : List Dot
  deriving DecidableEq, Repr

/-- The device side of the bus: what has happened, and what the running step has touched (the model's own fields,
log 3, log 9 and log 10). -/
structure Dev where
  history : History
  /-- The running step accessed a picture-unit register (0x2000 to 0x3FFF or 0x4014). -/
  ppuTouched : Bool
  /-- The page the running step wrote to 0x4014. -/
  oamPage : Option Byte
  deriving DecidableEq, Repr

/-! ## The machine -/

/-- The state of the machine. -/
structure State where
  cpu : Cpu
  pend : Pending
  /-- Bus storage `mem` (R38): keys 0x0000 to 0x07FF and 0x4020 to 0x7FFF. -/
  mem : Memory
  /-- The physical nametable 0 (R39). -/
  nt0 : Memory
  /-- The physical nametable 1 (R39). -/
  nt1 : Memory
  mirror : Mirroring
  pads : Pads
  mapper : MapperState
  cart : Cart
  /-- The CHR array: ROM when `cart.chr8 > 0`, an 8 KiB RAM when it is 0 (R41). -/
  chr : Memory
  params : Params
  sched : Sched
  dev : Dev
  env : Env
  deriving DecidableEq, Repr

/-- Why the machine stops. The hardware raises no fault (spec/00_scope.md R13, spec/60_exceptions.md R250). -/
inductive Fault where
  /-- The host's stop flag was set at the top of a scheduler iteration: the run ends (spec/60_exceptions.md R276).
  Raised by `step` alone; safe, it is the spec's own end of a run. -/
  | stopped
  deriving DecidableEq, Repr

/-- Why a step has no meaning. -/
inductive Refusal where
  /-- An instruction without a meaning in this model, by its mnemonic; raised by `exec`'s arms alone; safe. -/
  | notModelled (mnemonic : String)
  /-- The step fetched one of the 105 undefined opcode bytes, which a model must refuse (spec/30_encoding.md R120).
  Raised by the processor's step alone; safe. -/
  | undefinedOpcode (op : Byte)
  deriving DecidableEq, Repr

/-- How a step or a meaning ends. -/
abbrev Result := Host.Outcome State Fault Refusal

/-! ## Reset -/

/-- The processor's power-on state, less the program counter (R44, R255). -/
def Cpu.powerOn (pc : Addr) : Cpu :=
  { a := 0x00#8, x := 0x00#8, y := 0x00#8, sp := 0xFD#8, pc := pc
    f := { c := false, z := false, i := true, d := false, b := false, v := false, n := false } }

/-- The blank cartridge of `State.reset`: the smallest image the loader admits, its PRG bytes and its CHR-RAM all
listing nothing (log 2: DESIGN CHOICE, CART is a parameter). -/
def Cart.blank : Cart := { prg16 := 1, chr8 := 0, vertical := false, battery := false, prg := [] }

/-- The machine right after power-on (R44, spec/70_reset_and_hazards.md R351) with the blank cartridge, a RAM_INIT that
lists nothing and the spec's default parameters (log 1, log 2, log 7). The program counter is what the bytes at 0xFFFC
and 0xFFFD of that cartridge give; `reset_eq_powerOn` (Laws/Reset.lean) proves the whole equal to the procedure. -/
def State.reset : State :=
  { cpu := Cpu.powerOn 0x0000#16
    pend := { reset := false, nmi := false, irq := false }
    mem := [], nt0 := [], nt1 := []
    mirror := .horizontal
    pads := { buttons := 0#16, strobe := false, rd0 := 0, rd1 := 0 }
    mapper := .nrom
    cart := Cart.blank
    chr := []
    params := {}
    sched := { acc := 0, stop := false, atTop := true }
    dev := { history := { events := [], ppuSteps := 0 }, ppuTouched := false, oamPage := none }
    env := { boundary := [], reactions := [], oamReads := [], dots := [] } }

end Sys2Proof.Machine
end

