-- ==== Sys2Proof/Machine/Memory.lean ====
section
/-! DEFINITION. A store of bytes: reading, writing, and its canonical form. Bus storage, the two nametables, PRG and CHR
are all stores (spec/10_state.md R38, R39, R41). -/

namespace Sys2Proof.Machine

/-- What an address that a store does not list reads as (log 1: the contents at power-on are RAM_INIT and CART, which
no source fixes; a store lists those that are not this byte). -/
def unlistedByte : Byte := 0x00#8

/-- The byte at an address. -/
def Memory.read : Memory → Nat → Byte
  | [], _ => unlistedByte
  | (b, v) :: m, a => if a = b then v else Memory.read m a

/-- The store with one byte written; writing `unlistedByte` takes the entry out, so equal stores are equal lists. -/
def Memory.write : Memory → Nat → Byte → Memory
  | [], a, v => if v = unlistedByte then [] else [(a, v)]
  | (b, w) :: m, a, v =>
    if a < b then
      if v = unlistedByte then (b, w) :: m else (a, v) :: (b, w) :: m
    else if a = b then
      if v = unlistedByte then m else (a, v) :: m
    else (b, w) :: Memory.write m a v

/-- Every address listed is at least `lo`, addresses rise strictly, and no entry is the unlisted byte. -/
def Memory.wfFrom : Nat → Memory → Bool
  | _, [] => true
  | lo, (b, v) :: m => decide (lo ≤ b) && decide (v ≠ unlistedByte) && Memory.wfFrom (b + 1) m

/-- The canonical form of a store. -/
def Memory.wf (m : Memory) : Bool := Memory.wfFrom 0 m

/-- Every listed address satisfies a test. -/
def Memory.keysIn (p : Nat → Bool) (m : Memory) : Bool := m.all fun c => p c.1

/-- The store whose addresses from `start` on hold the bytes of a list. -/
def memoryFrom : Nat → List Byte → Memory
  | _, [] => []
  | a, v :: vs => if v = unlistedByte then memoryFrom (a + 1) vs else (a, v) :: memoryFrom (a + 1) vs

end Sys2Proof.Machine
end

