-- ==== Sys2Proof/Machine/Controller.lean ====
section
/-! DEFINITION. The controller port (spec/20_memory.md R92 to R94; spec/10_state.md R40). -/

namespace Sys2Proof.Machine

/-- `Controller.Strobe(v)` (R92): bit 0 is the latch; a transition from 1 to 0 sets both read counters to 0. -/
def Pads.strobeWrite (v : Byte) (p : Pads) : Pads :=
  let new := v.getLsbD 0
  if p.strobe && !new then { p with rd0 := 0, rd1 := 0, strobe := new } else { p with strobe := new }

/-- The read counter of a pad. -/
def Pads.counter (pad2 : Bool) (p : Pads) : Nat := if pad2 then p.rd1 else p.rd0

/-- What a read of a pad answers (R93): button `n` of the pad while the counter `n` is below 8, the parameter PAD_TAIL
from 8 on (log 5). -/
def Pads.answer (pad2 : Bool) (p : Pads) : Byte :=
  let n := p.counter pad2
  if n < 8 then BitVec.ofNat 8 (if p.buttons.getLsbD ((if pad2 then 8 else 0) + n) then 1 else 0)
  else Config.padTail (if pad2 then 1 else 0) n

/-- The counter advances on every read, whatever the strobe, and wraps from 23 to 0 (R93). -/
def Pads.advance (pad2 : Bool) (p : Pads) : Pads :=
  let n := (p.counter pad2 + 1) % 24
  if pad2 then { p with rd1 := n } else { p with rd0 := n }

end Sys2Proof.Machine
end

