-- ==== Sys2Proof/Machine/Nametable.lean ====
section
/-! DEFINITION. The nametable resolver (spec/20_memory.md R86 to R91). The picture unit calls `ntRead` and `ntWrite`;
the mapper and the loader call `setMirroring`; the processor never calls it. -/

namespace Sys2Proof.Machine

/-- `phys(mode, slot)` (R87): whether a logical slot is backed by physical table 1 (true) or 0 (false). -/
def physTable (mode : Mirroring) (slot : BitVec 2) : Bool :=
  match mode with
  | .horizontal => slot.getLsbD 1
  | .vertical => slot.getLsbD 0
  | .singleScreenUpper => true
  | .singleScreenLower => false

/-- The logical slot of a nametable-relative address: bits 11:10 (R88). -/
def ntSlot (r : NametableAddr) : BitVec 2 := r.extractLsb' 10 2

/-- The offset in a table: bits 9:0 (R88). -/
def ntOffset (r : NametableAddr) : Nat := r.toNat % 1024

/-- The nametable-relative address of a picture-memory address in 0x2000 to 0x3EFF: `v & 0x0FFF` (R88, D41). -/
def ntRelative (v : Addr) : NametableAddr := v.extractLsb' 0 12

/-- `Read(r)` (R89): the byte of the physical table the slot is mapped to. -/
def State.ntRead (r : NametableAddr) (s : State) : Byte :=
  if physTable s.mirror (ntSlot r) then s.nt1.read (ntOffset r) else s.nt0.read (ntOffset r)

/-- `Write(r, v)` (R89). -/
def State.ntWrite (r : NametableAddr) (v : Byte) (s : State) : State :=
  if physTable s.mirror (ntSlot r) then { s with nt1 := s.nt1.write (ntOffset r) v }
  else { s with nt0 := s.nt0.write (ntOffset r) v }

/-- `SetMirroring(m)` (R90): the mode and nothing else; no byte moves. -/
def State.setMirroring (m : Mirroring) (s : State) : State := { s with mirror := m }

end Sys2Proof.Machine
end

