-- ==== Sys2Proof/Machine/Mapper.lean ====
section
/-! DEFINITION. The cartridge mapper: bank views, the eight variants' windows, register writes and hooks
(spec/60_exceptions.md R282 to R312). -/

namespace Sys2Proof.Machine

/-! ## Banks are views (R282) -/

/-- `bank(arr, sz, b, off)` as an index into an array of length `len`: the bank index is taken modulo the number of
physical banks of that size, and the whole modulo the length. The index is an integer, so that a "last bank but k" of
an array with fewer banks has the residue rule R9 gives it (log 14). -/
def bankIndex (len sz : Nat) (b : Int) (off : Nat) : Nat :=
  ((b % ((max 1 (len / sz) : Nat) : Int)).toNat * sz + off) % len

/-- The length of the PRG array (R41, R280). -/
def Cart.prgLength (c : Cart) : Nat := 16384 * c.prg16

/-- The length of the CHR array: an 8 KiB RAM when there is no CHR bank (R41, R285). -/
def Cart.chrLength (c : Cart) : Nat := if c.chr8 = 0 then 8192 else 8192 * c.chr8

/-! ## PRG windows (R283, R286 to R311) -/

/-- The window size and bank index through which a variant shows an address of 0x8000 to 0xFFFF; `none` for the MMC5
stub, whose map is a parameter. -/
def prgWindow (prg16 : Nat) (m : MapperState) (addr : Nat) : Option (Nat × Int) :=
  let n16 : Int := prg16
  let n8 : Int := 2 * prg16
  match m with
  | .nrom | .cnrom _ => some (0x4000, if addr < 0xC000 then 0 else n16 - 1)
  | .unrom sel => some (0x4000, if addr < 0xC000 then (sel.toNat : Int) else n16 - 1)
  | .axrom sel => some (0x8000, (sel.toNat : Int))
  | .mmc1 r =>
    let mode := (r.control.extractLsb' 2 2).toNat
    let b := r.prgreg.toNat % 16
    if mode ≤ 1 then some (0x8000, ((b / 2 : Nat) : Int))
    else if mode = 2 then some (0x4000, if addr < 0xC000 then 0 else (b : Int))
    else some (0x4000, if addr < 0xC000 then (b : Int) else n16 - 1)
  | .mmc2 r =>
    some (0x2000,
      if addr < 0xA000 then (r.prgsel.toNat : Int)
      else if addr < 0xC000 then n8 - 3
      else if addr < 0xE000 then n8 - 2
      else n8 - 1)
  | .mmc3 r =>
    let swap := r.bsel.getLsbD 6
    some (0x2000,
      if addr < 0xA000 then (if swap then n8 - 2 else (r.r6.toNat : Int))
      else if addr < 0xC000 then (r.r7.toNat : Int)
      else if addr < 0xE000 then (if swap then (r.r6.toNat : Int) else n8 - 2)
      else n8 - 1)
  | .mmc5 => none

/-- The index of `prg` an address of 0x8000 to 0xFFFF reads (R283); through the MMC5 stub, the parameter MMC5_PRG_MAP,
kept inside the array (R311, log 6). -/
def prgIndex (c : Cart) (m : MapperState) (addr : Addr) : Nat :=
  match prgWindow c.prg16 m addr.toNat with
  | some (sz, b) => bankIndex c.prgLength sz b (addr.toNat % sz)
  | none => Config.mmc5PrgMap addr.toNat % c.prgLength

/-- `Mapper.Read(addr)` (R283): a PRG byte, never a register; no side effect. -/
def mapperRead (c : Cart) (m : MapperState) (addr : Addr) : Byte := c.prg.read (prgIndex c m addr)

/-! ## CHR windows (R285, R286 to R311) -/

/-- `R[k]` of the MMC3 (R304). -/
def Mmc3.target (k : BitVec 3) (r : Mmc3) : Byte :=
  match k.toNat with
  | 0 => r.r0
  | 1 => r.r1
  | 2 => r.r2
  | 3 => r.r3
  | 4 => r.r4
  | 5 => r.r5
  | 6 => r.r6
  | _ => r.r7

/-- `R[k] <- v` of the MMC3 (R307). -/
def Mmc3.setTarget (k : BitVec 3) (v : Byte) (r : Mmc3) : Mmc3 :=
  match k.toNat with
  | 0 => { r with r0 := v }
  | 1 => { r with r1 := v }
  | 2 => { r with r2 := v }
  | 3 => { r with r3 := v }
  | 4 => { r with r4 := v }
  | 5 => { r with r5 := v }
  | 6 => { r with r6 := v }
  | _ => { r with r7 := v }

/-- The 1 KiB bank of MMC3 slot `a[12:10]`, the halves swapped by `bsel[7]` (R306). -/
def Mmc3.chrBank (a : PatternAddr) (r : Mmc3) : Nat :=
  let slot := a.extractLsb' 10 3
  let t := slot ^^^ (if r.bsel.getLsbD 7 then 4#3 else 0#3)
  match t.toNat with
  | 0 => (r.r0 &&& 0xFE#8).toNat
  | 1 => (r.r0 ||| 0x01#8).toNat
  | 2 => (r.r1 &&& 0xFE#8).toNat
  | 3 => (r.r1 ||| 0x01#8).toNat
  | 4 => r.r2.toNat
  | 5 => r.r3.toNat
  | 6 => r.r4.toNat
  | _ => r.r5.toNat

/-- The window size and bank index through which a variant shows a pattern address of a CHR-ROM. -/
def chrWindow (m : MapperState) (a : PatternAddr) : Nat × Nat :=
  match m with
  | .nrom | .unrom _ | .axrom _ | .mmc5 => (0x2000, 0)
  | .cnrom csel => (0x2000, csel.toNat)
  | .mmc1 r =>
    if r.control.getLsbD 4 then (0x1000, if a.getLsbD 12 then r.chr1.toNat else r.chr0.toNat)
    else (0x2000, r.chr0.toNat / 2)
  | .mmc2 r =>
    (0x1000,
      if a.getLsbD 12 then (match r.latch1 with | .fd => r.chrFD1.toNat | .fe => r.chrFE1.toNat)
      else (match r.latch0 with | .fd => r.chrFD0.toNat | .fe => r.chrFE0.toNat))
  | .mmc3 r => (0x0400, r.chrBank a)

/-- The index of `chr` a pattern address reads: the address itself in a CHR-RAM, the bank view in a CHR-ROM (R285). -/
def chrIndex (c : Cart) (m : MapperState) (a : PatternAddr) : Nat :=
  if c.chr8 = 0 then a.toNat
  else
    let w := chrWindow m a
    bankIndex c.chrLength w.1 (w.2 : Int) (a.toNat % w.1)

/-- `ReadVram(a)` (R285). -/
def State.readVram (a : PatternAddr) (s : State) : Byte := s.chr.read (chrIndex s.cart s.mapper a)

/-- `WriteVram(v, a)` (R285): a CHR-RAM byte; a CHR-ROM ignores it. -/
def State.writeVram (a : PatternAddr) (v : Byte) (s : State) : State :=
  if s.cart.chr8 = 0 then { s with chr := s.chr.write a.toNat v } else s

/-- `ReadTile(a)` (R285): sixteen bytes in order, wrapping in the pattern space. -/
def State.readTile (a : PatternAddr) (s : State) : List Byte :=
  (List.range 16).map fun i => s.readVram (a + BitVec.ofNat 13 i)

/-- `BatteryBacked()` (R281, R284): the header bit; it has no effect on the machine. -/
def State.batteryBacked (s : State) : Bool := s.cart.battery

/-! ## Register writes -/

/-- MMC1 `Write(v, addr)` (R295 to R298): the registers after the write, and the mirroring mode a control load sets. -/
def Mmc1.write (chr8 : Nat) (v : Byte) (addr : Addr) (r : Mmc1) : Mmc1 × Option Mirroring :=
  if v.getLsbD 7 then ({ r with shift := 0#5, count := 0, control := r.control ||| 0x0C#5 }, none)
  else
    let shift := r.shift ||| BitVec.ofNat 5 (bif v.getLsbD 0 then 2 ^ r.count else 0)
    let count := r.count + 1
    if count = 5 then
      let r := { r with shift := 0#5, count := 0 }
      match (addr.extractLsb' 13 2).toNat with
      | 0 =>
        ({ r with control := shift },
          some (match (shift.extractLsb' 0 2).toNat with
            | 0 => .singleScreenLower
            | 1 => .singleScreenUpper
            | 2 => .vertical
            | _ => .horizontal))
      | 1 => (if chr8 > 0 then { r with chr0 := shift } else r, none)
      | 2 => (if chr8 > 0 then { r with chr1 := shift } else r, none)
      | _ => ({ r with prgreg := shift }, none)
    else ({ r with shift := shift, count := count }, none)

/-- MMC2 `Write(v, addr)`, by `addr[15:12]` (R301, R302). -/
def Mmc2.write (chr8 : Nat) (v : Byte) (addr : Addr) (r : Mmc2) : Mmc2 × Option Mirroring :=
  let v5 : BitVec 5 := v.extractLsb' 0 5
  match (addr.extractLsb' 12 4).toNat with
  | 0xA => ({ r with prgsel := v.extractLsb' 0 4 }, none)
  | 0xB => (if chr8 = 0 then r else { r with chrFD0 := v5 }, none)
  | 0xC => (if chr8 = 0 then r else { r with chrFE0 := v5 }, none)
  | 0xD => (if chr8 = 0 then r else { r with chrFD1 := v5 }, none)
  | 0xE => (if chr8 = 0 then r else { r with chrFE1 := v5 }, none)
  | 0xF => (r, some (if v.getLsbD 0 then .horizontal else .vertical))
  | _ => (r, none)

/-- MMC3 `Write(v, addr)`, by `addr & 0xE001` (R307, R308). -/
def Mmc3.write (chr8 : Nat) (v : Byte) (addr : Addr) (r : Mmc3) : Mmc3 × Option Mirroring :=
  match (addr &&& 0xE001#16).toNat with
  | 0x8000 => ({ r with bsel := v }, none)
  | 0x8001 =>
    let k := r.bsel.extractLsb' 0 3
    (if k.toNat ≥ 6 ∨ chr8 > 0 then r.setTarget k v else r, none)
  | 0xA000 => (r, some (if v.getLsbD 0 then .horizontal else .vertical))
  | 0xC000 => ({ r with irqLatch := v }, none)
  | 0xC001 => ({ r with irqReload := true }, none)
  | 0xE000 => ({ r with irqEnable := false }, none)
  | 0xE001 => ({ r with irqEnable := true }, none)
  | _ => (r, none)

/-- `Mapper.Write(v, addr)` for 0x8000 to 0xFFFF: the registers after the write, and the mirroring mode it sets, if any
(R286 to R311). It never changes storage or `prg` (spec/20_memory.md R57, R65). -/
def MapperState.write (p : Params) (chr8 : Nat) (v : Byte) (addr : Addr) (m : MapperState) :
    MapperState × Option Mirroring :=
  match m with
  | .nrom => (.nrom, none)
  | .unrom _ => (.unrom (v &&& p.unromPrgMask), none)
  | .cnrom csel => (.cnrom (if chr8 > 0 then v &&& p.cnromChrMask else csel), none)
  | .axrom _ =>
    (.axrom (v &&& p.axromPrgMask),
      some (if v.getLsbD p.axromMirrorBit then .singleScreenUpper else .singleScreenLower))
  | .mmc1 r => (.mmc1 (r.write chr8 v addr).1, (r.write chr8 v addr).2)
  | .mmc2 r => (.mmc2 (r.write chr8 v addr).1, (r.write chr8 v addr).2)
  | .mmc3 r => (.mmc3 (r.write chr8 v addr).1, (r.write chr8 v addr).2)
  | .mmc5 => (.mmc5, none)

/-- A bus write to the cartridge range: the mapper's registers, and the mirroring mode where the write sets one. -/
def State.mapperWrite (addr : Addr) (v : Byte) (s : State) : State :=
  let w := s.mapper.write s.params s.cart.chr8 v addr
  { s with mapper := w.1, mirror := w.2.getD s.mirror }

/-! ## Hooks -/

/-- MMC2 `Hook(a)` (R303). -/
def Mmc2.hook (a : Addr) (r : Mmc2) : Mmc2 :=
  match (a &&& 0x1FF0#16).toNat with
  | 0x0FD0 => { r with latch0 := .fd }
  | 0x0FE0 => { r with latch0 := .fe }
  | 0x1FD0 => { r with latch1 := .fd }
  | 0x1FE0 => { r with latch1 := .fe }
  | _ => r

/-- MMC3 `Hook` (R309), one clock of the scanline counter; the address is ignored. -/
def Mmc3.hook (r : Mmc3) : Mmc3 :=
  if r.irqReload || r.irqCounter == 0#8 then { r with irqCounter := r.irqLatch, irqReload := false }
  else { r with irqCounter := r.irqCounter - 1#8 }

/-- Whether an MMC3 `Hook` that left these registers requests the IRQ (R309). -/
def Mmc3.hookRequests (r : Mmc3) : Bool := r.irqCounter == 0#8 && r.irqEnable

/-- `Hook(a)`: MMC2 and MMC3 react; for every other variant it does nothing (R284). -/
def State.hook (a : Addr) (s : State) : State :=
  match s.mapper with
  | .mmc2 r => { s with mapper := .mmc2 (r.hook a) }
  | .mmc3 r =>
    let r := r.hook
    { s with mapper := .mmc3 r, pend := { s.pend with irq := s.pend.irq || r.hookRequests } }
  | _ => s

/-! ## Load-time registers (R312) -/

/-- The registers of a variant at load. -/
def MapperState.atLoad (p : Params) : Variant → MapperState
  | .nrom => .nrom
  | .unrom => .unrom 0#8
  | .cnrom => .cnrom 0#8
  | .axrom => .axrom 0#8
  | .mmc1 => .mmc1 { shift := 0#5, count := 0, control := 0x0C#5, chr0 := 0#5, chr1 := 0#5, prgreg := 0#5 }
  | .mmc2 =>
    let l := if p.mmc2LatchInitFE then Latch.fe else Latch.fd
    .mmc2 { prgsel := 0#4, chrFD0 := 0#5, chrFE0 := 0#5, chrFD1 := 0#5, chrFE1 := 0#5, latch0 := l, latch1 := l }
  | .mmc3 =>
    .mmc3 { bsel := 0#8, r0 := 0#8, r1 := 2#8, r2 := 4#8, r3 := 5#8, r4 := 6#8, r5 := 7#8, r6 := 0#8, r7 := 1#8
            irqLatch := 0#8, irqCounter := 0#8, irqReload := false, irqEnable := false }
  | .mmc5 => .mmc5

/-- The variant whose registers these are. -/
def MapperState.variant : MapperState → Variant
  | .nrom => .nrom
  | .unrom _ => .unrom
  | .cnrom _ => .cnrom
  | .axrom _ => .axrom
  | .mmc1 _ => .mmc1
  | .mmc2 _ => .mmc2
  | .mmc3 _ => .mmc3
  | .mmc5 => .mmc5

end Sys2Proof.Machine
end

