-- ==== Sys2Proof/Machine/Bus.lean ====
section
/-! DEFINITION. The memory bus: the region decoder and the two memory primitives every access goes through
(spec/20_memory.md R55 to R67). -/

namespace Sys2Proof.Machine

/-- Where an address leads (R55). -/
inductive Region where
  /-- Internal RAM, the offset in its 2 KiB (R58). -/
  | ram (off : Nat)
  /-- A picture-unit register (R59). -/
  | ppuReg (n : Nat)
  /-- The OAM-DMA register 0x4014 (R60). -/
  | oamDma
  /-- A controller port: pad 1 at 0x4016, pad 2 at 0x4017 (R61). -/
  | pad (pad2 : Bool)
  /-- An audio-unit register, named by its address (R63). -/
  | apuReg (n : Nat)
  /-- Plain storage 0x4020 to 0x7FFF (R64). -/
  | plain (a : Nat)
  /-- The cartridge range (R65). -/
  | cartridge
  deriving DecidableEq, Repr

/-- The bus decoder, its tests in the order of rule R66. -/
def busRegion (addr : Addr) : Region :=
  let a := addr.toNat
  if 0x2000 ≤ a ∧ a ≤ 0x3FFF then .ppuReg (a % 8)
  else if a = 0x4014 then .oamDma
  else if a = 0x4016 then .pad false
  else if a = 0x4017 then .pad true
  else if 0x4000 ≤ a ∧ a ≤ 0x401F then .apuReg a
  else if a ≥ 0x8000 then .cartridge
  else if a < 0x2000 then .ram (a % 0x0800)
  else .plain a

/-- An event put on the record (R62). -/
def State.record (e : Event) (s : State) : State :=
  { s with dev := { s.dev with history := { s.dev.history with events := e :: s.dev.history.events } } }

/-- The running step has accessed a picture-unit register (R279). -/
def State.touchPpu (s : State) : State := { s with dev := { s.dev with ppuTouched := true } }

/-- What the bus answers to a read (R56): a storage byte, a PRG byte, a controller's bit, or whatever the external
device answers (DEVICE_READ, log 3). -/
def State.busValue (addr : Addr) (s : State) : Byte :=
  match busRegion addr with
  | .ram off => s.mem.read off
  | .plain a => s.mem.read a
  | .cartridge => mapperRead s.cart s.mapper addr
  | .ppuReg n => Config.deviceRead .ppu n s.dev.history
  | .oamDma => Config.deviceRead .ppu 0x14 s.dev.history
  | .apuReg n => Config.deviceRead .apu n s.dev.history
  | .pad pad2 => s.pads.answer pad2

/-- What a read changes (R56, R67): nothing in storage and the cartridge range; the read counter of a pad; the record of
device accesses for a device register. -/
def State.busReadEffect (addr : Addr) (s : State) : State :=
  match busRegion addr with
  | .ram _ | .plain _ | .cartridge => s
  | .ppuReg n => (s.record (.devRead .ppu n (s.busValue addr))).touchPpu
  | .oamDma => (s.record (.devRead .ppu 0x14 (s.busValue addr))).touchPpu
  | .apuReg n => s.record (.devRead .apu n (s.busValue addr))
  | .pad pad2 => { s with pads := s.pads.advance pad2 }

/-- `MemRead(addr, 1)` (R56): the byte, and the state the read leaves. -/
def State.busRead (addr : Addr) (s : State) : Byte × State := (s.busValue addr, s.busReadEffect addr)

/-- `MemWrite(addr, 1, v)` (R57). A write of 0x4014 adds OAM_DMA_STALL to the cycles of its step (R60, R124 c). -/
def State.busWrite (addr : Addr) (v : Byte) (s : State) : State :=
  match busRegion addr with
  | .ram off => { s with mem := s.mem.write off v }
  | .plain a => { s with mem := s.mem.write a v }
  | .cartridge => s.mapperWrite addr v
  | .ppuReg n => (s.record (.devWrite .ppu n v)).touchPpu
  | .oamDma =>
    let s := (s.record (.devWrite .ppu 0x14 v)).touchPpu
    { s with dev := { s.dev with oamPage := some v }, sched := { s.sched with acc := s.sched.acc + Config.oamDmaStall } }
  | .apuReg n => s.record (.devWrite .apu n v)
  | .pad _ => { s with pads := s.pads.strobeWrite v }

/-- The byte an address of internal RAM, plain storage or the cartridge range holds; `none` for a device register or a
controller port, which holds no byte. -/
def State.peek (addr : Addr) (s : State) : Option Byte :=
  match busRegion addr with
  | .ram off => some (s.mem.read off)
  | .plain a => some (s.mem.read a)
  | .cartridge => some (mapperRead s.cart s.mapper addr)
  | _ => none

/-- A byte placed where a read of the address will find it, from outside the machine: in storage, or in the PRG byte the
address shows. It is no bus write; only `withFetchWord` uses it. -/
def State.poke (addr : Addr) (v : Byte) (s : State) : State :=
  match busRegion addr with
  | .ram off => { s with mem := s.mem.write off v }
  | .plain a => { s with mem := s.mem.write a v }
  | .cartridge => { s with cart := { s.cart with prg := s.cart.prg.write (prgIndex s.cart s.mapper addr) v } }
  | _ => s

end Sys2Proof.Machine
end

