-- ==== Sys2Proof/Syntax.lean ====
section
/-! DEFINITION. The instruction set as syntax: the 56 mnemonics, the 13 addressing modes, and one constructor of
`Instr` for each of the 151 rows of spec/opcode_table.json (spec/30_encoding.md R118, R119).

A constructor carries the operand bytes that follow its opcode: an 8-bit operand (byte 1), or a 16-bit operand
(byte 2 high, byte 1 low; R101, R109). -/

namespace Sys2Proof

/-- The mnemonics of rule R118. -/
inductive Mnemonic where
  | ADC | AND | ASL | BCC | BCS | BEQ | BIT | BMI
  | BNE | BPL | BRK | BVC | BVS | CLC | CLD | CLI
  | CLV | CMP | CPX | CPY | DEC | DEX | DEY | EOR
  | INC | INX | INY | JMP | JSR | LDA | LDX | LDY
  | LSR | NOP | ORA | PHA | PHP | PLA | PLP | ROL
  | ROR | RTI | RTS | SBC | SEC | SED | SEI | STA
  | STX | STY | TAX | TAY | TSX | TXA | TXS | TYA
  deriving DecidableEq, Repr

/-- The addressing modes, by the tags of rule R18. -/
inductive Mode where
  | IMP | ACC | IMM | ZP | ZPX | ZPY | ABS | ABSX | ABSY | IND | IZX | IZY | REL
  deriving DecidableEq, Repr

/-- How many operand bytes follow the opcode (R101: formats F1, F2 and F3). -/
def Mode.operandBytes : Mode → Nat
  | .IMP | .ACC => 0
  | .IMM | .ZP | .ZPX | .ZPY | .IZX | .IZY | .REL => 1
  | .ABS | .ABSX | .ABSY | .IND => 2

/-- The length of an instruction in bytes, which its mode alone fixes (R101, R122). -/
def Mode.length (m : Mode) : Nat := 1 + m.operandBytes

/-- An instruction, one constructor per opcode byte (R119). -/
inductive Instr where
  -- Loads, stores and transfers (spec/40_load_store_transfer.md)
  | ldaImm (v : Byte)
  | ldaZp (z : Byte)
  | ldaZpx (z : Byte)
  | ldaAbs (w : Addr)
  | ldaAbsx (w : Addr)
  | ldaAbsy (w : Addr)
  | ldaIzx (z : Byte)
  | ldaIzy (z : Byte)
  | ldxImm (v : Byte)
  | ldxZp (z : Byte)
  | ldxZpy (z : Byte)
  | ldxAbs (w : Addr)
  | ldxAbsy (w : Addr)
  | ldyImm (v : Byte)
  | ldyZp (z : Byte)
  | ldyZpx (z : Byte)
  | ldyAbs (w : Addr)
  | ldyAbsx (w : Addr)
  | staZp (z : Byte)
  | staZpx (z : Byte)
  | staAbs (w : Addr)
  | staAbsx (w : Addr)
  | staAbsy (w : Addr)
  | staIzx (z : Byte)
  | staIzy (z : Byte)
  | stxZp (z : Byte)
  | stxZpy (z : Byte)
  | stxAbs (w : Addr)
  | styZp (z : Byte)
  | styZpx (z : Byte)
  | styAbs (w : Addr)
  | tax
  | tay
  | txa
  | tya
  | tsx
  | txs
  -- Arithmetic, logic, compare, bit test, increment and decrement (spec/41_arithmetic_logic.md)
  | adcImm (v : Byte)
  | adcZp (z : Byte)
  | adcZpx (z : Byte)
  | adcAbs (w : Addr)
  | adcAbsx (w : Addr)
  | adcAbsy (w : Addr)
  | adcIzx (z : Byte)
  | adcIzy (z : Byte)
  | sbcImm (v : Byte)
  | sbcZp (z : Byte)
  | sbcZpx (z : Byte)
  | sbcAbs (w : Addr)
  | sbcAbsx (w : Addr)
  | sbcAbsy (w : Addr)
  | sbcIzx (z : Byte)
  | sbcIzy (z : Byte)
  | andImm (v : Byte)
  | andZp (z : Byte)
  | andZpx (z : Byte)
  | andAbs (w : Addr)
  | andAbsx (w : Addr)
  | andAbsy (w : Addr)
  | andIzx (z : Byte)
  | andIzy (z : Byte)
  | oraImm (v : Byte)
  | oraZp (z : Byte)
  | oraZpx (z : Byte)
  | oraAbs (w : Addr)
  | oraAbsx (w : Addr)
  | oraAbsy (w : Addr)
  | oraIzx (z : Byte)
  | oraIzy (z : Byte)
  | eorImm (v : Byte)
  | eorZp (z : Byte)
  | eorZpx (z : Byte)
  | eorAbs (w : Addr)
  | eorAbsx (w : Addr)
  | eorAbsy (w : Addr)
  | eorIzx (z : Byte)
  | eorIzy (z : Byte)
  | cmpImm (v : Byte)
  | cmpZp (z : Byte)
  | cmpZpx (z : Byte)
  | cmpAbs (w : Addr)
  | cmpAbsx (w : Addr)
  | cmpAbsy (w : Addr)
  | cmpIzx (z : Byte)
  | cmpIzy (z : Byte)
  | cpxImm (v : Byte)
  | cpxZp (z : Byte)
  | cpxAbs (w : Addr)
  | cpyImm (v : Byte)
  | cpyZp (z : Byte)
  | cpyAbs (w : Addr)
  | bitZp (z : Byte)
  | bitAbs (w : Addr)
  | incZp (z : Byte)
  | incZpx (z : Byte)
  | incAbs (w : Addr)
  | incAbsx (w : Addr)
  | decZp (z : Byte)
  | decZpx (z : Byte)
  | decAbs (w : Addr)
  | decAbsx (w : Addr)
  | inx
  | iny
  | dex
  | dey
  -- Shifts and rotates (spec/42_shift_rotate.md)
  | aslAcc
  | aslZp (z : Byte)
  | aslZpx (z : Byte)
  | aslAbs (w : Addr)
  | aslAbsx (w : Addr)
  | lsrAcc
  | lsrZp (z : Byte)
  | lsrZpx (z : Byte)
  | lsrAbs (w : Addr)
  | lsrAbsx (w : Addr)
  | rolAcc
  | rolZp (z : Byte)
  | rolZpx (z : Byte)
  | rolAbs (w : Addr)
  | rolAbsx (w : Addr)
  | rorAcc
  | rorZp (z : Byte)
  | rorZpx (z : Byte)
  | rorAbs (w : Addr)
  | rorAbsx (w : Addr)
  -- Jumps, calls and branches (spec/43_control_flow.md)
  | jmpAbs (w : Addr)
  | jmpInd (w : Addr)
  | jsr (w : Addr)
  | rts
  | bcc (o : Byte)
  | bcs (o : Byte)
  | beq (o : Byte)
  | bne (o : Byte)
  | bmi (o : Byte)
  | bpl (o : Byte)
  | bvc (o : Byte)
  | bvs (o : Byte)
  -- Stack, flags, no-operation and system (spec/44_stack_flags_system.md)
  | pha
  | pla
  | php
  | plp
  | clc
  | sec
  | cli
  | sei
  | cld
  | sed
  | clv
  | nop
  | brk
  | rti
  deriving DecidableEq, Repr

/-- An instruction as an assembler sees it: a mnemonic, an addressing mode and an operand (R125). Not every triple is
an instruction: `Asm.wellFormed` (WellFormed.lean) says which are. -/
structure Asm where
  mnemonic : Mnemonic
  mode : Mode
  operand : Nat
  deriving DecidableEq, Repr

/-- The mnemonic, mode and operand of an instruction (the cell of the opcode matrix R119 its constructor names). -/
def Instr.asm : Instr → Asm
  | .ldaImm v => ⟨.LDA, .IMM, v.toNat⟩
  | .ldaZp z => ⟨.LDA, .ZP, z.toNat⟩
  | .ldaZpx z => ⟨.LDA, .ZPX, z.toNat⟩
  | .ldaAbs w => ⟨.LDA, .ABS, w.toNat⟩
  | .ldaAbsx w => ⟨.LDA, .ABSX, w.toNat⟩
  | .ldaAbsy w => ⟨.LDA, .ABSY, w.toNat⟩
  | .ldaIzx z => ⟨.LDA, .IZX, z.toNat⟩
  | .ldaIzy z => ⟨.LDA, .IZY, z.toNat⟩
  | .ldxImm v => ⟨.LDX, .IMM, v.toNat⟩
  | .ldxZp z => ⟨.LDX, .ZP, z.toNat⟩
  | .ldxZpy z => ⟨.LDX, .ZPY, z.toNat⟩
  | .ldxAbs w => ⟨.LDX, .ABS, w.toNat⟩
  | .ldxAbsy w => ⟨.LDX, .ABSY, w.toNat⟩
  | .ldyImm v => ⟨.LDY, .IMM, v.toNat⟩
  | .ldyZp z => ⟨.LDY, .ZP, z.toNat⟩
  | .ldyZpx z => ⟨.LDY, .ZPX, z.toNat⟩
  | .ldyAbs w => ⟨.LDY, .ABS, w.toNat⟩
  | .ldyAbsx w => ⟨.LDY, .ABSX, w.toNat⟩
  | .staZp z => ⟨.STA, .ZP, z.toNat⟩
  | .staZpx z => ⟨.STA, .ZPX, z.toNat⟩
  | .staAbs w => ⟨.STA, .ABS, w.toNat⟩
  | .staAbsx w => ⟨.STA, .ABSX, w.toNat⟩
  | .staAbsy w => ⟨.STA, .ABSY, w.toNat⟩
  | .staIzx z => ⟨.STA, .IZX, z.toNat⟩
  | .staIzy z => ⟨.STA, .IZY, z.toNat⟩
  | .stxZp z => ⟨.STX, .ZP, z.toNat⟩
  | .stxZpy z => ⟨.STX, .ZPY, z.toNat⟩
  | .stxAbs w => ⟨.STX, .ABS, w.toNat⟩
  | .styZp z => ⟨.STY, .ZP, z.toNat⟩
  | .styZpx z => ⟨.STY, .ZPX, z.toNat⟩
  | .styAbs w => ⟨.STY, .ABS, w.toNat⟩
  | .tax => ⟨.TAX, .IMP, 0⟩
  | .tay => ⟨.TAY, .IMP, 0⟩
  | .txa => ⟨.TXA, .IMP, 0⟩
  | .tya => ⟨.TYA, .IMP, 0⟩
  | .tsx => ⟨.TSX, .IMP, 0⟩
  | .txs => ⟨.TXS, .IMP, 0⟩
  | .adcImm v => ⟨.ADC, .IMM, v.toNat⟩
  | .adcZp z => ⟨.ADC, .ZP, z.toNat⟩
  | .adcZpx z => ⟨.ADC, .ZPX, z.toNat⟩
  | .adcAbs w => ⟨.ADC, .ABS, w.toNat⟩
  | .adcAbsx w => ⟨.ADC, .ABSX, w.toNat⟩
  | .adcAbsy w => ⟨.ADC, .ABSY, w.toNat⟩
  | .adcIzx z => ⟨.ADC, .IZX, z.toNat⟩
  | .adcIzy z => ⟨.ADC, .IZY, z.toNat⟩
  | .sbcImm v => ⟨.SBC, .IMM, v.toNat⟩
  | .sbcZp z => ⟨.SBC, .ZP, z.toNat⟩
  | .sbcZpx z => ⟨.SBC, .ZPX, z.toNat⟩
  | .sbcAbs w => ⟨.SBC, .ABS, w.toNat⟩
  | .sbcAbsx w => ⟨.SBC, .ABSX, w.toNat⟩
  | .sbcAbsy w => ⟨.SBC, .ABSY, w.toNat⟩
  | .sbcIzx z => ⟨.SBC, .IZX, z.toNat⟩
  | .sbcIzy z => ⟨.SBC, .IZY, z.toNat⟩
  | .andImm v => ⟨.AND, .IMM, v.toNat⟩
  | .andZp z => ⟨.AND, .ZP, z.toNat⟩
  | .andZpx z => ⟨.AND, .ZPX, z.toNat⟩
  | .andAbs w => ⟨.AND, .ABS, w.toNat⟩
  | .andAbsx w => ⟨.AND, .ABSX, w.toNat⟩
  | .andAbsy w => ⟨.AND, .ABSY, w.toNat⟩
  | .andIzx z => ⟨.AND, .IZX, z.toNat⟩
  | .andIzy z => ⟨.AND, .IZY, z.toNat⟩
  | .oraImm v => ⟨.ORA, .IMM, v.toNat⟩
  | .oraZp z => ⟨.ORA, .ZP, z.toNat⟩
  | .oraZpx z => ⟨.ORA, .ZPX, z.toNat⟩
  | .oraAbs w => ⟨.ORA, .ABS, w.toNat⟩
  | .oraAbsx w => ⟨.ORA, .ABSX, w.toNat⟩
  | .oraAbsy w => ⟨.ORA, .ABSY, w.toNat⟩
  | .oraIzx z => ⟨.ORA, .IZX, z.toNat⟩
  | .oraIzy z => ⟨.ORA, .IZY, z.toNat⟩
  | .eorImm v => ⟨.EOR, .IMM, v.toNat⟩
  | .eorZp z => ⟨.EOR, .ZP, z.toNat⟩
  | .eorZpx z => ⟨.EOR, .ZPX, z.toNat⟩
  | .eorAbs w => ⟨.EOR, .ABS, w.toNat⟩
  | .eorAbsx w => ⟨.EOR, .ABSX, w.toNat⟩
  | .eorAbsy w => ⟨.EOR, .ABSY, w.toNat⟩
  | .eorIzx z => ⟨.EOR, .IZX, z.toNat⟩
  | .eorIzy z => ⟨.EOR, .IZY, z.toNat⟩
  | .cmpImm v => ⟨.CMP, .IMM, v.toNat⟩
  | .cmpZp z => ⟨.CMP, .ZP, z.toNat⟩
  | .cmpZpx z => ⟨.CMP, .ZPX, z.toNat⟩
  | .cmpAbs w => ⟨.CMP, .ABS, w.toNat⟩
  | .cmpAbsx w => ⟨.CMP, .ABSX, w.toNat⟩
  | .cmpAbsy w => ⟨.CMP, .ABSY, w.toNat⟩
  | .cmpIzx z => ⟨.CMP, .IZX, z.toNat⟩
  | .cmpIzy z => ⟨.CMP, .IZY, z.toNat⟩
  | .cpxImm v => ⟨.CPX, .IMM, v.toNat⟩
  | .cpxZp z => ⟨.CPX, .ZP, z.toNat⟩
  | .cpxAbs w => ⟨.CPX, .ABS, w.toNat⟩
  | .cpyImm v => ⟨.CPY, .IMM, v.toNat⟩
  | .cpyZp z => ⟨.CPY, .ZP, z.toNat⟩
  | .cpyAbs w => ⟨.CPY, .ABS, w.toNat⟩
  | .bitZp z => ⟨.BIT, .ZP, z.toNat⟩
  | .bitAbs w => ⟨.BIT, .ABS, w.toNat⟩
  | .incZp z => ⟨.INC, .ZP, z.toNat⟩
  | .incZpx z => ⟨.INC, .ZPX, z.toNat⟩
  | .incAbs w => ⟨.INC, .ABS, w.toNat⟩
  | .incAbsx w => ⟨.INC, .ABSX, w.toNat⟩
  | .decZp z => ⟨.DEC, .ZP, z.toNat⟩
  | .decZpx z => ⟨.DEC, .ZPX, z.toNat⟩
  | .decAbs w => ⟨.DEC, .ABS, w.toNat⟩
  | .decAbsx w => ⟨.DEC, .ABSX, w.toNat⟩
  | .inx => ⟨.INX, .IMP, 0⟩
  | .iny => ⟨.INY, .IMP, 0⟩
  | .dex => ⟨.DEX, .IMP, 0⟩
  | .dey => ⟨.DEY, .IMP, 0⟩
  | .aslAcc => ⟨.ASL, .ACC, 0⟩
  | .aslZp z => ⟨.ASL, .ZP, z.toNat⟩
  | .aslZpx z => ⟨.ASL, .ZPX, z.toNat⟩
  | .aslAbs w => ⟨.ASL, .ABS, w.toNat⟩
  | .aslAbsx w => ⟨.ASL, .ABSX, w.toNat⟩
  | .lsrAcc => ⟨.LSR, .ACC, 0⟩
  | .lsrZp z => ⟨.LSR, .ZP, z.toNat⟩
  | .lsrZpx z => ⟨.LSR, .ZPX, z.toNat⟩
  | .lsrAbs w => ⟨.LSR, .ABS, w.toNat⟩
  | .lsrAbsx w => ⟨.LSR, .ABSX, w.toNat⟩
  | .rolAcc => ⟨.ROL, .ACC, 0⟩
  | .rolZp z => ⟨.ROL, .ZP, z.toNat⟩
  | .rolZpx z => ⟨.ROL, .ZPX, z.toNat⟩
  | .rolAbs w => ⟨.ROL, .ABS, w.toNat⟩
  | .rolAbsx w => ⟨.ROL, .ABSX, w.toNat⟩
  | .rorAcc => ⟨.ROR, .ACC, 0⟩
  | .rorZp z => ⟨.ROR, .ZP, z.toNat⟩
  | .rorZpx z => ⟨.ROR, .ZPX, z.toNat⟩
  | .rorAbs w => ⟨.ROR, .ABS, w.toNat⟩
  | .rorAbsx w => ⟨.ROR, .ABSX, w.toNat⟩
  | .jmpAbs w => ⟨.JMP, .ABS, w.toNat⟩
  | .jmpInd w => ⟨.JMP, .IND, w.toNat⟩
  | .jsr w => ⟨.JSR, .ABS, w.toNat⟩
  | .rts => ⟨.RTS, .IMP, 0⟩
  | .bcc o => ⟨.BCC, .REL, o.toNat⟩
  | .bcs o => ⟨.BCS, .REL, o.toNat⟩
  | .beq o => ⟨.BEQ, .REL, o.toNat⟩
  | .bne o => ⟨.BNE, .REL, o.toNat⟩
  | .bmi o => ⟨.BMI, .REL, o.toNat⟩
  | .bpl o => ⟨.BPL, .REL, o.toNat⟩
  | .bvc o => ⟨.BVC, .REL, o.toNat⟩
  | .bvs o => ⟨.BVS, .REL, o.toNat⟩
  | .pha => ⟨.PHA, .IMP, 0⟩
  | .pla => ⟨.PLA, .IMP, 0⟩
  | .php => ⟨.PHP, .IMP, 0⟩
  | .plp => ⟨.PLP, .IMP, 0⟩
  | .clc => ⟨.CLC, .IMP, 0⟩
  | .sec => ⟨.SEC, .IMP, 0⟩
  | .cli => ⟨.CLI, .IMP, 0⟩
  | .sei => ⟨.SEI, .IMP, 0⟩
  | .cld => ⟨.CLD, .IMP, 0⟩
  | .sed => ⟨.SED, .IMP, 0⟩
  | .clv => ⟨.CLV, .IMP, 0⟩
  | .nop => ⟨.NOP, .IMP, 0⟩
  | .brk => ⟨.BRK, .IMP, 0⟩
  | .rti => ⟨.RTI, .IMP, 0⟩

/-- The mnemonic of an instruction. -/
def Instr.mnemonic (i : Instr) : Mnemonic := i.asm.mnemonic

/-- The addressing mode of an instruction. -/
def Instr.mode (i : Instr) : Mode := i.asm.mode

/-- The operand bytes of an instruction as one number (0 where it has none). -/
def Instr.operand (i : Instr) : Nat := i.asm.operand

end Sys2Proof
end

