-- ==== Sys2Proof/Decode.lean ====
section
/-! DEFINITION. Decoding and encoding (spec/30_encoding.md R101, R119, R120, R122, R127). The decoder is total on any
list of bytes: it answers an instruction and the bytes left over, or rejects by name. The encoder is written from the
same matrix, opcode by opcode. -/

namespace Sys2Proof

/-- `hi ++ lo` of rule R9: the 16-bit value whose high byte is `hi` (little-endian operands, R70, R101). -/
def joinBytes (hi lo : Byte) : Addr := hi ++ lo

/-- Bits 15:8 of a 16-bit value. -/
def highByte (w : Addr) : Byte := w.extractLsb' 8 8

/-- Bits 7:0 of a 16-bit value. -/
def lowByte (w : Addr) : Byte := w.extractLsb' 0 8

/-- What an opcode byte makes of the operand bytes after it: the three formats of R101. -/
inductive Form where
  /-- F1: the opcode byte alone. -/
  | alone (i : Instr)
  /-- F2: one operand byte. -/
  | oneByte (mk : Byte → Instr)
  /-- F3: a low and a high operand byte. -/
  | twoBytes (mk : Addr → Instr)

/-- The number of operand bytes of a format. -/
def Form.operandBytes : Form → Nat
  | .alone _ => 0
  | .oneByte _ => 1
  | .twoBytes _ => 2

/-- One cell of the opcode matrix. -/
structure OpRow where
  op : Byte
  form : Form

/-- Row 0x of the matrix of rule R119. -/
def opRows0 : List OpRow :=
  [ ⟨0x00#8, .alone .brk⟩, ⟨0x01#8, .oneByte .oraIzx⟩, ⟨0x05#8, .oneByte .oraZp⟩,
    ⟨0x06#8, .oneByte .aslZp⟩, ⟨0x08#8, .alone .php⟩, ⟨0x09#8, .oneByte .oraImm⟩,
    ⟨0x0A#8, .alone .aslAcc⟩, ⟨0x0D#8, .twoBytes .oraAbs⟩, ⟨0x0E#8, .twoBytes .aslAbs⟩ ]

/-- Row 1x of the matrix of rule R119. -/
def opRows1 : List OpRow :=
  [ ⟨0x10#8, .oneByte .bpl⟩, ⟨0x11#8, .oneByte .oraIzy⟩, ⟨0x15#8, .oneByte .oraZpx⟩,
    ⟨0x16#8, .oneByte .aslZpx⟩, ⟨0x18#8, .alone .clc⟩, ⟨0x19#8, .twoBytes .oraAbsy⟩,
    ⟨0x1D#8, .twoBytes .oraAbsx⟩, ⟨0x1E#8, .twoBytes .aslAbsx⟩ ]

/-- Row 2x of the matrix of rule R119. -/
def opRows2 : List OpRow :=
  [ ⟨0x20#8, .twoBytes .jsr⟩, ⟨0x21#8, .oneByte .andIzx⟩, ⟨0x24#8, .oneByte .bitZp⟩,
    ⟨0x25#8, .oneByte .andZp⟩, ⟨0x26#8, .oneByte .rolZp⟩, ⟨0x28#8, .alone .plp⟩,
    ⟨0x29#8, .oneByte .andImm⟩, ⟨0x2A#8, .alone .rolAcc⟩, ⟨0x2C#8, .twoBytes .bitAbs⟩,
    ⟨0x2D#8, .twoBytes .andAbs⟩, ⟨0x2E#8, .twoBytes .rolAbs⟩ ]

/-- Row 3x of the matrix of rule R119. -/
def opRows3 : List OpRow :=
  [ ⟨0x30#8, .oneByte .bmi⟩, ⟨0x31#8, .oneByte .andIzy⟩, ⟨0x35#8, .oneByte .andZpx⟩,
    ⟨0x36#8, .oneByte .rolZpx⟩, ⟨0x38#8, .alone .sec⟩, ⟨0x39#8, .twoBytes .andAbsy⟩,
    ⟨0x3D#8, .twoBytes .andAbsx⟩, ⟨0x3E#8, .twoBytes .rolAbsx⟩ ]

/-- Row 4x of the matrix of rule R119. -/
def opRows4 : List OpRow :=
  [ ⟨0x40#8, .alone .rti⟩, ⟨0x41#8, .oneByte .eorIzx⟩, ⟨0x45#8, .oneByte .eorZp⟩,
    ⟨0x46#8, .oneByte .lsrZp⟩, ⟨0x48#8, .alone .pha⟩, ⟨0x49#8, .oneByte .eorImm⟩,
    ⟨0x4A#8, .alone .lsrAcc⟩, ⟨0x4C#8, .twoBytes .jmpAbs⟩, ⟨0x4D#8, .twoBytes .eorAbs⟩,
    ⟨0x4E#8, .twoBytes .lsrAbs⟩ ]

/-- Row 5x of the matrix of rule R119. -/
def opRows5 : List OpRow :=
  [ ⟨0x50#8, .oneByte .bvc⟩, ⟨0x51#8, .oneByte .eorIzy⟩, ⟨0x55#8, .oneByte .eorZpx⟩,
    ⟨0x56#8, .oneByte .lsrZpx⟩, ⟨0x58#8, .alone .cli⟩, ⟨0x59#8, .twoBytes .eorAbsy⟩,
    ⟨0x5D#8, .twoBytes .eorAbsx⟩, ⟨0x5E#8, .twoBytes .lsrAbsx⟩ ]

/-- Row 6x of the matrix of rule R119. -/
def opRows6 : List OpRow :=
  [ ⟨0x60#8, .alone .rts⟩, ⟨0x61#8, .oneByte .adcIzx⟩, ⟨0x65#8, .oneByte .adcZp⟩,
    ⟨0x66#8, .oneByte .rorZp⟩, ⟨0x68#8, .alone .pla⟩, ⟨0x69#8, .oneByte .adcImm⟩,
    ⟨0x6A#8, .alone .rorAcc⟩, ⟨0x6C#8, .twoBytes .jmpInd⟩, ⟨0x6D#8, .twoBytes .adcAbs⟩,
    ⟨0x6E#8, .twoBytes .rorAbs⟩ ]

/-- Row 7x of the matrix of rule R119. -/
def opRows7 : List OpRow :=
  [ ⟨0x70#8, .oneByte .bvs⟩, ⟨0x71#8, .oneByte .adcIzy⟩, ⟨0x75#8, .oneByte .adcZpx⟩,
    ⟨0x76#8, .oneByte .rorZpx⟩, ⟨0x78#8, .alone .sei⟩, ⟨0x79#8, .twoBytes .adcAbsy⟩,
    ⟨0x7D#8, .twoBytes .adcAbsx⟩, ⟨0x7E#8, .twoBytes .rorAbsx⟩ ]

/-- Row 8x of the matrix of rule R119. -/
def opRows8 : List OpRow :=
  [ ⟨0x81#8, .oneByte .staIzx⟩, ⟨0x84#8, .oneByte .styZp⟩, ⟨0x85#8, .oneByte .staZp⟩,
    ⟨0x86#8, .oneByte .stxZp⟩, ⟨0x88#8, .alone .dey⟩, ⟨0x8A#8, .alone .txa⟩,
    ⟨0x8C#8, .twoBytes .styAbs⟩, ⟨0x8D#8, .twoBytes .staAbs⟩, ⟨0x8E#8, .twoBytes .stxAbs⟩ ]

/-- Row 9x of the matrix of rule R119. -/
def opRows9 : List OpRow :=
  [ ⟨0x90#8, .oneByte .bcc⟩, ⟨0x91#8, .oneByte .staIzy⟩, ⟨0x94#8, .oneByte .styZpx⟩,
    ⟨0x95#8, .oneByte .staZpx⟩, ⟨0x96#8, .oneByte .stxZpy⟩, ⟨0x98#8, .alone .tya⟩,
    ⟨0x99#8, .twoBytes .staAbsy⟩, ⟨0x9A#8, .alone .txs⟩, ⟨0x9D#8, .twoBytes .staAbsx⟩ ]

/-- Row Ax of the matrix of rule R119. -/
def opRowsA : List OpRow :=
  [ ⟨0xA0#8, .oneByte .ldyImm⟩, ⟨0xA1#8, .oneByte .ldaIzx⟩, ⟨0xA2#8, .oneByte .ldxImm⟩,
    ⟨0xA4#8, .oneByte .ldyZp⟩, ⟨0xA5#8, .oneByte .ldaZp⟩, ⟨0xA6#8, .oneByte .ldxZp⟩,
    ⟨0xA8#8, .alone .tay⟩, ⟨0xA9#8, .oneByte .ldaImm⟩, ⟨0xAA#8, .alone .tax⟩,
    ⟨0xAC#8, .twoBytes .ldyAbs⟩, ⟨0xAD#8, .twoBytes .ldaAbs⟩, ⟨0xAE#8, .twoBytes .ldxAbs⟩ ]

/-- Row Bx of the matrix of rule R119. -/
def opRowsB : List OpRow :=
  [ ⟨0xB0#8, .oneByte .bcs⟩, ⟨0xB1#8, .oneByte .ldaIzy⟩, ⟨0xB4#8, .oneByte .ldyZpx⟩,
    ⟨0xB5#8, .oneByte .ldaZpx⟩, ⟨0xB6#8, .oneByte .ldxZpy⟩, ⟨0xB8#8, .alone .clv⟩,
    ⟨0xB9#8, .twoBytes .ldaAbsy⟩, ⟨0xBA#8, .alone .tsx⟩, ⟨0xBC#8, .twoBytes .ldyAbsx⟩,
    ⟨0xBD#8, .twoBytes .ldaAbsx⟩, ⟨0xBE#8, .twoBytes .ldxAbsy⟩ ]

/-- Row Cx of the matrix of rule R119. -/
def opRowsC : List OpRow :=
  [ ⟨0xC0#8, .oneByte .cpyImm⟩, ⟨0xC1#8, .oneByte .cmpIzx⟩, ⟨0xC4#8, .oneByte .cpyZp⟩,
    ⟨0xC5#8, .oneByte .cmpZp⟩, ⟨0xC6#8, .oneByte .decZp⟩, ⟨0xC8#8, .alone .iny⟩,
    ⟨0xC9#8, .oneByte .cmpImm⟩, ⟨0xCA#8, .alone .dex⟩, ⟨0xCC#8, .twoBytes .cpyAbs⟩,
    ⟨0xCD#8, .twoBytes .cmpAbs⟩, ⟨0xCE#8, .twoBytes .decAbs⟩ ]

/-- Row Dx of the matrix of rule R119. -/
def opRowsD : List OpRow :=
  [ ⟨0xD0#8, .oneByte .bne⟩, ⟨0xD1#8, .oneByte .cmpIzy⟩, ⟨0xD5#8, .oneByte .cmpZpx⟩,
    ⟨0xD6#8, .oneByte .decZpx⟩, ⟨0xD8#8, .alone .cld⟩, ⟨0xD9#8, .twoBytes .cmpAbsy⟩,
    ⟨0xDD#8, .twoBytes .cmpAbsx⟩, ⟨0xDE#8, .twoBytes .decAbsx⟩ ]

/-- Row Ex of the matrix of rule R119. -/
def opRowsE : List OpRow :=
  [ ⟨0xE0#8, .oneByte .cpxImm⟩, ⟨0xE1#8, .oneByte .sbcIzx⟩, ⟨0xE4#8, .oneByte .cpxZp⟩,
    ⟨0xE5#8, .oneByte .sbcZp⟩, ⟨0xE6#8, .oneByte .incZp⟩, ⟨0xE8#8, .alone .inx⟩,
    ⟨0xE9#8, .oneByte .sbcImm⟩, ⟨0xEA#8, .alone .nop⟩, ⟨0xEC#8, .twoBytes .cpxAbs⟩,
    ⟨0xED#8, .twoBytes .sbcAbs⟩, ⟨0xEE#8, .twoBytes .incAbs⟩ ]

/-- Row Fx of the matrix of rule R119. -/
def opRowsF : List OpRow :=
  [ ⟨0xF0#8, .oneByte .beq⟩, ⟨0xF1#8, .oneByte .sbcIzy⟩, ⟨0xF5#8, .oneByte .sbcZpx⟩,
    ⟨0xF6#8, .oneByte .incZpx⟩, ⟨0xF8#8, .alone .sed⟩, ⟨0xF9#8, .twoBytes .sbcAbsy⟩,
    ⟨0xFD#8, .twoBytes .sbcAbsx⟩, ⟨0xFE#8, .twoBytes .incAbsx⟩ ]

/-- The opcode matrix of rule R119, its sixteen rows in order. -/
def opTable : List OpRow :=
  opRows0 ++ opRows1 ++ opRows2 ++ opRows3 ++ opRows4 ++ opRows5 ++ opRows6 ++ opRows7 ++
  opRows8 ++ opRows9 ++ opRowsA ++ opRowsB ++ opRowsC ++ opRowsD ++ opRowsE ++ opRowsF

/-- The cell of an opcode byte: all eight bits select the instruction and its mode together (R101). -/
def opForm (op : Byte) : Option Form := (opTable.find? fun r => r.op == op).map OpRow.form

/-- Why a list of bytes is no instruction. -/
inductive DecodeError where
  /-- The opcode is one of the 105 bytes of rule R120. -/
  | undefinedOpcode (op : Byte)
  /-- There are fewer bytes than the opcode's length (R122). -/
  | truncated
  deriving DecidableEq, Repr

/-- Decoding: the instruction at the front of a list of bytes, and the bytes after it (R122, R127). -/
def decode : List Byte → Except DecodeError (Instr × List Byte)
  | [] => .error .truncated
  | op :: rest =>
    match opForm op with
    | none => .error (.undefinedOpcode op)
    | some (.alone i) => .ok (i, rest)
    | some (.oneByte mk) =>
      match rest with
      | [] => .error .truncated
      | b :: rest => .ok (mk b, rest)
    | some (.twoBytes mk) =>
      match rest with
      | lo :: hi :: rest => .ok (mk (joinBytes hi lo), rest)
      | _ => .error .truncated

/-- The opcode byte of an instruction (R119). -/
def Instr.opcode : Instr → Byte
  | .ldaImm _ => 0xA9#8
  | .ldaZp _ => 0xA5#8
  | .ldaZpx _ => 0xB5#8
  | .ldaAbs _ => 0xAD#8
  | .ldaAbsx _ => 0xBD#8
  | .ldaAbsy _ => 0xB9#8
  | .ldaIzx _ => 0xA1#8
  | .ldaIzy _ => 0xB1#8
  | .ldxImm _ => 0xA2#8
  | .ldxZp _ => 0xA6#8
  | .ldxZpy _ => 0xB6#8
  | .ldxAbs _ => 0xAE#8
  | .ldxAbsy _ => 0xBE#8
  | .ldyImm _ => 0xA0#8
  | .ldyZp _ => 0xA4#8
  | .ldyZpx _ => 0xB4#8
  | .ldyAbs _ => 0xAC#8
  | .ldyAbsx _ => 0xBC#8
  | .staZp _ => 0x85#8
  | .staZpx _ => 0x95#8
  | .staAbs _ => 0x8D#8
  | .staAbsx _ => 0x9D#8
  | .staAbsy _ => 0x99#8
  | .staIzx _ => 0x81#8
  | .staIzy _ => 0x91#8
  | .stxZp _ => 0x86#8
  | .stxZpy _ => 0x96#8
  | .stxAbs _ => 0x8E#8
  | .styZp _ => 0x84#8
  | .styZpx _ => 0x94#8
  | .styAbs _ => 0x8C#8
  | .tax => 0xAA#8
  | .tay => 0xA8#8
  | .txa => 0x8A#8
  | .tya => 0x98#8
  | .tsx => 0xBA#8
  | .txs => 0x9A#8
  | .adcImm _ => 0x69#8
  | .adcZp _ => 0x65#8
  | .adcZpx _ => 0x75#8
  | .adcAbs _ => 0x6D#8
  | .adcAbsx _ => 0x7D#8
  | .adcAbsy _ => 0x79#8
  | .adcIzx _ => 0x61#8
  | .adcIzy _ => 0x71#8
  | .sbcImm _ => 0xE9#8
  | .sbcZp _ => 0xE5#8
  | .sbcZpx _ => 0xF5#8
  | .sbcAbs _ => 0xED#8
  | .sbcAbsx _ => 0xFD#8
  | .sbcAbsy _ => 0xF9#8
  | .sbcIzx _ => 0xE1#8
  | .sbcIzy _ => 0xF1#8
  | .andImm _ => 0x29#8
  | .andZp _ => 0x25#8
  | .andZpx _ => 0x35#8
  | .andAbs _ => 0x2D#8
  | .andAbsx _ => 0x3D#8
  | .andAbsy _ => 0x39#8
  | .andIzx _ => 0x21#8
  | .andIzy _ => 0x31#8
  | .oraImm _ => 0x09#8
  | .oraZp _ => 0x05#8
  | .oraZpx _ => 0x15#8
  | .oraAbs _ => 0x0D#8
  | .oraAbsx _ => 0x1D#8
  | .oraAbsy _ => 0x19#8
  | .oraIzx _ => 0x01#8
  | .oraIzy _ => 0x11#8
  | .eorImm _ => 0x49#8
  | .eorZp _ => 0x45#8
  | .eorZpx _ => 0x55#8
  | .eorAbs _ => 0x4D#8
  | .eorAbsx _ => 0x5D#8
  | .eorAbsy _ => 0x59#8
  | .eorIzx _ => 0x41#8
  | .eorIzy _ => 0x51#8
  | .cmpImm _ => 0xC9#8
  | .cmpZp _ => 0xC5#8
  | .cmpZpx _ => 0xD5#8
  | .cmpAbs _ => 0xCD#8
  | .cmpAbsx _ => 0xDD#8
  | .cmpAbsy _ => 0xD9#8
  | .cmpIzx _ => 0xC1#8
  | .cmpIzy _ => 0xD1#8
  | .cpxImm _ => 0xE0#8
  | .cpxZp _ => 0xE4#8
  | .cpxAbs _ => 0xEC#8
  | .cpyImm _ => 0xC0#8
  | .cpyZp _ => 0xC4#8
  | .cpyAbs _ => 0xCC#8
  | .bitZp _ => 0x24#8
  | .bitAbs _ => 0x2C#8
  | .incZp _ => 0xE6#8
  | .incZpx _ => 0xF6#8
  | .incAbs _ => 0xEE#8
  | .incAbsx _ => 0xFE#8
  | .decZp _ => 0xC6#8
  | .decZpx _ => 0xD6#8
  | .decAbs _ => 0xCE#8
  | .decAbsx _ => 0xDE#8
  | .inx => 0xE8#8
  | .iny => 0xC8#8
  | .dex => 0xCA#8
  | .dey => 0x88#8
  | .aslAcc => 0x0A#8
  | .aslZp _ => 0x06#8
  | .aslZpx _ => 0x16#8
  | .aslAbs _ => 0x0E#8
  | .aslAbsx _ => 0x1E#8
  | .lsrAcc => 0x4A#8
  | .lsrZp _ => 0x46#8
  | .lsrZpx _ => 0x56#8
  | .lsrAbs _ => 0x4E#8
  | .lsrAbsx _ => 0x5E#8
  | .rolAcc => 0x2A#8
  | .rolZp _ => 0x26#8
  | .rolZpx _ => 0x36#8
  | .rolAbs _ => 0x2E#8
  | .rolAbsx _ => 0x3E#8
  | .rorAcc => 0x6A#8
  | .rorZp _ => 0x66#8
  | .rorZpx _ => 0x76#8
  | .rorAbs _ => 0x6E#8
  | .rorAbsx _ => 0x7E#8
  | .jmpAbs _ => 0x4C#8
  | .jmpInd _ => 0x6C#8
  | .jsr _ => 0x20#8
  | .rts => 0x60#8
  | .bcc _ => 0x90#8
  | .bcs _ => 0xB0#8
  | .beq _ => 0xF0#8
  | .bne _ => 0xD0#8
  | .bmi _ => 0x30#8
  | .bpl _ => 0x10#8
  | .bvc _ => 0x50#8
  | .bvs _ => 0x70#8
  | .pha => 0x48#8
  | .pla => 0x68#8
  | .php => 0x08#8
  | .plp => 0x28#8
  | .clc => 0x18#8
  | .sec => 0x38#8
  | .cli => 0x58#8
  | .sei => 0x78#8
  | .cld => 0xD8#8
  | .sed => 0xF8#8
  | .clv => 0xB8#8
  | .nop => 0xEA#8
  | .brk => 0x00#8
  | .rti => 0x40#8

/-- The operand bytes of a mode, low byte first (R101). -/
def operandBytes (mode : Mode) (operand : Nat) : List Byte :=
  match mode.operandBytes with
  | 0 => []
  | 1 => [BitVec.ofNat 8 operand]
  | _ => [BitVec.ofNat 8 operand, BitVec.ofNat 8 (operand / 256)]

/-- The bytes of an instruction: its opcode, then its operand bytes (R101). -/
def encode (i : Instr) : List Byte := i.opcode :: operandBytes i.mode i.operand

/-- The bytes of a word numbered as spec/opcode_table.json numbers its bits: the first byte in bits 7:0, the second in
bits 15:8, the third in bits 23:16; every bit from `nbits` up is 0. -/
def tableWordBytes (nbits w : Nat) : List Byte :=
  let w := w % 2 ^ nbits
  [BitVec.ofNat 8 w, BitVec.ofNat 8 (w / 256), BitVec.ofNat 8 (w / 65536)]

/-- The instruction the decoder reads from a word of the opcode table. -/
def decodeTableWord (nbits w : Nat) : Option Instr :=
  match decode (tableWordBytes nbits w) with
  | .ok (i, _) => some i
  | .error _ => none

end Sys2Proof
end

