-- ==== Sys2Proof/Machine/Flags.lean ====
section
/-! DEFINITION. Every flag computation (spec/10_state.md R27 to R32; spec/41_arithmetic_logic.md R160 to R169;
spec/42_shift_rotate.md R190 to R194): the status byte, and the arithmetic unit's results with their flags. -/

namespace Sys2Proof.Machine

/-! ## The status byte -/

/-- A bit as a number. -/
def bitNat (b : Bool) : Nat := if b then 1 else 0

/-- The status byte as read: `N*128 + V*64 + 32 + B*16 + D*8 + I*4 + Z*2 + C` (R27, R28). -/
def Flags.pack (f : Flags) : Byte :=
  BitVec.ofNat 8 (bitNat f.n * 128 + bitNat f.v * 64 + 32 + bitNat f.b * 16 + bitNat f.d * 8 + bitNat f.i * 4 +
    bitNat f.z * 2 + bitNat f.c)

/-- `set_status(v)`: the six flags from a pulled byte; bits 4 and 5 are discarded (R224, R28, R29). -/
def Flags.setStatus (v : Byte) (f : Flags) : Flags :=
  { c := v.getLsbD 0, z := v.getLsbD 1, i := v.getLsbD 2, d := v.getLsbD 3, b := f.b, v := v.getLsbD 6, n := v.getLsbD 7 }

/-- The copy PHP and BRK push: bits 4 and 5 set (R223, R233). -/
def Flags.pushedByBreak (f : Flags) : Byte := f.pack ||| 0x30#8

/-- The copy interrupt entry pushes: bit 4 clear, bit 5 set (R256). -/
def Flags.pushedByInterrupt (f : Flags) : Byte := (f.pack &&& 0xEF#8) ||| 0x20#8

/-- `setZN(v)` (R12): Z is whether the byte is 0, N its bit 7. -/
def Flags.setZN (v : Byte) (f : Flags) : Flags := { f with z := v == 0#8, n := v.getLsbD 7 }

/-! ## Addition, subtraction and comparison -/

/-- A result byte with the carry and the overflow it gives. -/
structure SumOut where
  r : Byte
  c : Bool
  v : Bool
  deriving DecidableEq, Repr

/-- ADC (R161): the sum as a natural number, narrowed; the carry is the unsigned overflow, the overflow the signed one
(the operands' signs agree and the result's differs). The Decimal flag takes no part (R30, R160). -/
def addWithCarry (a m : Byte) (carry : Bool) : SumOut :=
  let sum := a.toNat + m.toNat + bitNat carry
  let r := BitVec.ofNat 8 sum
  { r := r
    c := decide (sum > 0xFF)
    v := (a.getLsbD 7 == m.getLsbD 7) && (r.getLsbD 7 != a.getLsbD 7) }

/-- SBC (R162): the difference as an integer, narrowed; the carry is not-borrow, the overflow the signed one (the
operands' signs differ and the result's differs from the accumulator's). -/
def subtractWithBorrow (a m : Byte) (carry : Bool) : SumOut :=
  let diff : Int := (a.toNat : Int) - (m.toNat : Int) - (1 - (bitNat carry : Int))
  let r := BitVec.ofInt 8 diff
  { r := r
    c := decide (diff ≥ 0)
    v := (a.getLsbD 7 != m.getLsbD 7) && (r.getLsbD 7 != a.getLsbD 7) }

/-- The flags ADC and SBC leave: C, Z, V, N. -/
def Flags.setSum (o : SumOut) (f : Flags) : Flags := Flags.setZN o.r { f with c := o.c, v := o.v }

/-- `compare(r, m)` (R166): C is the unsigned `r >= m`, Z equality, N bit 7 of the difference. -/
def Flags.compare (r m : Byte) (f : Flags) : Flags :=
  { f with c := decide (r.toNat ≥ m.toNat), z := r == m, n := (r - m).getLsbD 7 }

/-- BIT (R169): Z from the and, N and V from the memory byte itself. -/
def Flags.bitTest (a m : Byte) (f : Flags) : Flags :=
  { f with z := (a &&& m) == 0#8, n := m.getLsbD 7, v := m.getLsbD 6 }

/-! ## Read-modify-write results: the new byte and the flags it leaves -/

/-- INC (R170). -/
def incByte (m : Byte) (f : Flags) : Byte × Flags :=
  let r := m + 1#8
  (r, f.setZN r)

/-- DEC (R171). -/
def decByte (m : Byte) (f : Flags) : Byte × Flags :=
  let r := m - 1#8
  (r, f.setZN r)

/-- ASL (R191): `r = (v * 2) mod 256`, C is bit 7 of the operand. -/
def aslByte (v : Byte) (f : Flags) : Byte × Flags :=
  let r := BitVec.ofNat 8 (v.toNat * 2)
  (r, Flags.setZN r { f with c := v.getLsbD 7 })

/-- LSR (R192): `r = v div 2`, C is bit 0 of the operand. -/
def lsrByte (v : Byte) (f : Flags) : Byte × Flags :=
  let r := BitVec.ofNat 8 (v.toNat / 2)
  (r, Flags.setZN r { f with c := v.getLsbD 0 })

/-- ROL (R193): the old carry comes in at bit 0, C is bit 7 of the operand. -/
def rolByte (v : Byte) (f : Flags) : Byte × Flags :=
  let r := BitVec.ofNat 8 (v.toNat * 2) ||| BitVec.ofNat 8 (bitNat f.c)
  (r, Flags.setZN r { f with c := v.getLsbD 7 })

/-- ROR (R194): the old carry comes in at bit 7, C is bit 0 of the operand. -/
def rorByte (v : Byte) (f : Flags) : Byte × Flags :=
  let r := BitVec.ofNat 8 (v.toNat / 2) ||| BitVec.ofNat 8 (bitNat f.c * 128)
  (r, Flags.setZN r { f with c := v.getLsbD 0 })

end Sys2Proof.Machine
end

