-- ==== Sys2Proof/Machine/Ops.lean ====
section
/-! DEFINITION. The named operations over registers and memory: 16-bit reads, the stack, taking an interrupt and
returning from one, and the cycle count (spec/00_scope.md R12, spec/20_memory.md R70 to R72, spec/60_exceptions.md R254
to R260). -/

namespace Sys2Proof.Machine

/-! ## Registers and cycles -/

/-- The state with its processor registers changed. -/
def State.mapCpu (f : Cpu → Cpu) (s : State) : State := { s with cpu := f s.cpu }

/-- The state with the program counter set. -/
def State.setPc (pc : Addr) (s : State) : State := { s with cpu := { s.cpu with pc := pc } }

/-- The state with the stack pointer set. -/
def State.setSp (sp : Byte) (s : State) : State := { s with cpu := { s.cpu with sp := sp } }

/-- The state with the flags changed. -/
def State.mapFlags (f : Flags → Flags) (s : State) : State := { s with cpu := { s.cpu with f := f s.cpu.f } }

/-- The count a step returns, added to the scheduler's accumulator (R275: `acc <- acc + CPU.Step()`). -/
def State.addCycles (n : Nat) (s : State) : State := { s with sched := { s.sched with acc := s.sched.acc + n } }

/-! ## 16-bit reads -/

/-- `MemRead(addr, 2)` (R12, R70): two separate byte reads, the low byte first, from `addr` and `addr + 1`. -/
def State.busRead16 (addr : Addr) (s : State) : Addr × State :=
  let lo := s.busRead addr
  let hi := lo.2.busRead (addr + 1#16)
  (joinBytes hi.1 lo.1, hi.2)

/-- The page-wrapped 16-bit read of JMP indirect (R71, R112): the high byte comes from the same page. -/
def State.busRead16Wrapped (ptr : Addr) (s : State) : Addr × State :=
  let lo := s.busRead ptr
  let hi := lo.2.busRead ((ptr &&& 0xFF00#16) ||| ((ptr + 1#16) &&& 0x00FF#16))
  (joinBytes hi.1 lo.1, hi.2)

/-- The zero-page address of a byte (`zext_16`, R10). -/
def zeroPage (z : Byte) : Addr := z.setWidth 16

/-- The 16-bit read of a zero-page pointer (R71, R114, R115): the high byte comes from `(p + 1) mod 256`. -/
def State.busRead16ZeroPage (p : Byte) (s : State) : Addr × State :=
  let lo := s.busRead (zeroPage p)
  let hi := lo.2.busRead (zeroPage (p + 1#8))
  (joinBytes hi.1 lo.1, hi.2)

/-! ## The stack (R12, R24) -/

/-- The stack address `0x0100 + S`. -/
def stackAddr (sp : Byte) : Addr := 0x0100#16 + sp.setWidth 16

/-- `push8(v)`: store at the stack address, then decrement S modulo 256. -/
def State.push8 (v : Byte) (s : State) : State :=
  let s := s.busWrite (stackAddr s.cpu.sp) v
  s.setSp (s.cpu.sp - 1#8)

/-- `pull8()`: increment S modulo 256, then read at the stack address. -/
def State.pull8 (s : State) : Byte × State :=
  let s := s.setSp (s.cpu.sp + 1#8)
  s.busRead (stackAddr s.cpu.sp)

/-- A 16-bit address pushed high byte first (R72). -/
def State.push16 (w : Addr) (s : State) : State := (s.push8 (highByte w)).push8 (lowByte w)

/-- A 16-bit address pulled low byte first (R72). -/
def State.pull16 (s : State) : Addr × State :=
  let lo := s.pull8
  let hi := lo.2.pull8
  (joinBytes hi.1 lo.1, hi.2)

/-! ## Taking an interrupt or a trap, and returning -/

/-- The entry BRK, IRQ and NMI share (R233, R256): push the return address, high byte first, push the given copy of the
status, set I, load PC from the vector. -/
def State.enterTrap (ret : Addr) (status : Byte) (vector : Addr) (s : State) : State :=
  let s := (s.push16 ret).push8 status
  let s := s.mapFlags fun f => { f with i := true }
  let v := s.busRead16 vector
  v.2.setPc v.1

/-- RTI (R234, R260): pull the status and take its six flags, then pull PC, nothing added. -/
def State.returnFromTrap (s : State) : State :=
  let v := s.pull8
  let s := v.2.mapFlags (Flags.setStatus v.1)
  let pc := s.pull16
  pc.2.setPc pc.1

/-- The three interrupt lines. -/
inductive Interrupt where
  | reset | nmi | irq
  deriving DecidableEq, Repr

/-- `RequestInterrupt(kind)` (R251): sets the pending mark and nothing else. -/
def State.requestInterrupt (k : Interrupt) (s : State) : State :=
  match k with
  | .reset => { s with pend := { s.pend with reset := true } }
  | .nmi => { s with pend := { s.pend with nmi := true } }
  | .irq => { s with pend := { s.pend with irq := true } }

/-- `poll_interrupts()` (R254): Reset, then NMI, then IRQ if I is clear; the mark of the one chosen is cleared. -/
def State.pollInterrupts (s : State) : Option Interrupt × State :=
  if s.pend.reset then (some .reset, { s with pend := { s.pend with reset := false } })
  else if s.pend.nmi then (some .nmi, { s with pend := { s.pend with nmi := false } })
  else if s.pend.irq && !s.cpu.f.i then (some .irq, { s with pend := { s.pend with irq := false } })
  else (none, s)

/-- Reset service (R255): the power-on registers, PC from the vector at 0xFFFC; nothing is pushed. DESIGN CHOICE (log 20): it
puts no event on the record, so what the external devices answer does not depend on it (R353 leaves open whether they see a
Reset). -/
def State.serviceReset (s : State) : State :=
  let v := State.busRead16 0xFFFC#16 { s with cpu := Cpu.powerOn s.cpu.pc }
  v.2.setPc v.1

/-- `enter_interrupt(k)` (R255, R256), with the 7 cycles of its step. -/
def State.enterInterrupt (k : Interrupt) (s : State) : State :=
  match k with
  | .reset => s.serviceReset.addCycles 7
  | .nmi => (s.enterTrap s.cpu.pc s.cpu.f.pushedByInterrupt 0xFFFA#16).addCycles 7
  | .irq => (s.enterTrap s.cpu.pc s.cpu.f.pushedByInterrupt 0xFFFE#16).addCycles 7

end Sys2Proof.Machine
end

