-- ==== Sys2Proof/Machine/Picture.lean ====
section
/-! DEFINITION. The external agents' moves (spec/60_exceptions.md R278, R279; spec/20_memory.md R60): what the picture
unit, the host and the input agent may do to the machine, read from the lists of `State.env` (log 8). -/

namespace Sys2Proof.Machine

/-- One call of the picture unit: the mapper's picture-side entries, the nametable resolver, `RequestInterrupt(NMI)`
(R278). What a read answers goes to the picture unit, so it is put on the record. -/
def State.ppuCall (c : PpuCall) (s : State) : State :=
  match c with
  | .readVram a => s.record (.vramRead a (s.readVram a))
  | .writeVram a v => (s.writeVram a v).record (.vramWrite a v)
  | .readTile a => s.record (.tileRead a (s.readTile a))
  | .ntRead r => s.record (.ntRead r (s.ntRead r))
  | .ntWrite r v => (s.ntWrite r v).record (.ntWrite r v)
  | .requestNmi => (s.requestInterrupt .nmi).record .nmi

/-- Calls in order. -/
def State.ppuCalls : List PpuCall → State → State
  | [], s => s
  | c :: cs, s => State.ppuCalls cs (s.ppuCall c)

/-- A `Hook` call, if there is one. -/
def State.hookCall (h : Option Addr) (s : State) : State :=
  match h with
  | none => s
  | some a => (s.hook a).record (.hook a)

/-- What the picture unit does in one `PPU.Step()` (R278). -/
def State.runDot (d : Dot) (s : State) : State := ((s.ppuCalls d.before).hookCall d.hook).ppuCalls d.after

/-- Several of them in order. -/
def State.runDots : List Dot → State → State
  | [], s => s
  | d :: ds, s => State.runDots ds (s.runDot d)

/-- `n` calls of `PPU.Step()`, each taking the next entry of `env.dots`; a picture unit with no entry left makes no
call. -/
def State.ppuSteps : Nat → State → State
  | 0, s => s
  | n + 1, s =>
    match s.env.dots with
    | [] => s
    | d :: ds => State.ppuSteps n (State.runDot d { s with env := { s.env with dots := ds } })

/-- The scheduler's picture batch: 341 calls of `PPU.Step()` (R275). -/
def State.pictureBatch (s : State) : State :=
  let s := s.ppuSteps 341
  { s with dev := { s.dev with history := { s.dev.history with ppuSteps := s.dev.history.ppuSteps + 341 } } }

/-- What the picture unit does on account of a register access of the step just run (R279, log 9). -/
def State.reactions (s : State) : State :=
  if s.dev.ppuTouched then
    match s.env.reactions with
    | [] => s
    | ds :: rest => State.runDots ds { s with env := { s.env with reactions := rest } }
  else s

/-- One bus read of the OAM-DMA page (R60); the byte goes to the picture unit. -/
def State.oamRead (page : Byte) (i : Byte) (s : State) : State :=
  let a := joinBytes page i
  let m := s.busRead a
  m.2.record (.oamRead a m.1)

/-- Bus reads of the page at the offsets listed. -/
def State.oamReadList (page : Byte) : List Byte → State → State
  | [], s => s
  | i :: is, s => State.oamReadList page is (s.oamRead page i)

/-- The bus reads the picture unit makes after a write of 0x4014, at most 256 of them (R60, log 10). -/
def State.oamDma (s : State) : State :=
  match s.dev.oamPage with
  | none => s
  | some page =>
    match s.env.oamReads with
    | [] => s
    | is :: rest => State.oamReadList page (is.take 256) { s with env := { s.env with oamReads := rest } }

/-- One move of the host or of the input agent at an instruction boundary (R279). -/
def State.boundaryCall (c : BoundaryCall) (s : State) : State :=
  match c with
  | .requestReset => s.requestInterrupt .reset
  | .requestIrq => s.requestInterrupt .irq
  | .setStop => { s with sched := { s.sched with stop := true } }
  | .setButtons b => { s with pads := { s.pads with buttons := b } }

/-- Moves in order. -/
def State.boundaryCalls : List BoundaryCall → State → State
  | [], s => s
  | c :: cs, s => State.boundaryCalls cs (s.boundaryCall c)

/-- The moves made at this instruction boundary: the next entry of `env.boundary`. -/
def State.atBoundary (s : State) : State :=
  match s.env.boundary with
  | [] => s
  | cs :: rest => State.boundaryCalls cs { s with env := { s.env with boundary := rest } }

end Sys2Proof.Machine
end

