-- ==== Sys2Proof/Machine/Operands.lean ====
section
/-! DEFINITION. The addressing-mode resolver (spec/30_encoding.md R102 to R117) and the shapes of instruction that share
an operand form.

A meaning runs on the state the fetch leaves: the operand bytes have been read and `pc` is the address after them
(R25, log 18). What is left to resolve is the effective address, with the pointer reads of IZX, IZY and IND. -/

namespace Sys2Proof.Machine

/-- What `resolve(mode)` answers: the effective address, whether a page was crossed, and the state after its reads. -/
structure Ea where
  addr : Addr
  crossed : Bool
  st : State

/-- Page cross (R113): the addition of the index to the low byte of the base carries out of 8 bits. -/
def pageCross (base : Addr) (index : Byte) : Bool := decide (base.toNat % 256 + index.toNat > 0xFF)

/-- ZP (R106). -/
def eaZp (z : Byte) (s : State) : Ea := ⟨zeroPage z, false, s⟩

/-- ZPX (R107): the sum wraps in page 0. -/
def eaZpx (z : Byte) (s : State) : Ea := ⟨zeroPage (z + s.cpu.x), false, s⟩

/-- ZPY (R108). -/
def eaZpy (z : Byte) (s : State) : Ea := ⟨zeroPage (z + s.cpu.y), false, s⟩

/-- ABS (R109). -/
def eaAbs (w : Addr) (s : State) : Ea := ⟨w, false, s⟩

/-- ABSX (R110): the 17-bit sum truncated to 16 bits. -/
def eaAbsx (w : Addr) (s : State) : Ea := ⟨w + s.cpu.x.setWidth 16, pageCross w s.cpu.x, s⟩

/-- ABSY (R111). -/
def eaAbsy (w : Addr) (s : State) : Ea := ⟨w + s.cpu.y.setWidth 16, pageCross w s.cpu.y, s⟩

/-- IND (R112). -/
def eaInd (w : Addr) (s : State) : Ea :=
  let p := s.busRead16Wrapped w
  ⟨p.1, false, p.2⟩

/-- IZX (R114): the pointer's address and its high byte's address wrap in page 0. -/
def eaIzx (z : Byte) (s : State) : Ea :=
  let p := s.busRead16ZeroPage (z + s.cpu.x)
  ⟨p.1, false, p.2⟩

/-- IZY (R115): the pointer, then a full 16-bit addition of Y. -/
def eaIzy (z : Byte) (s : State) : Ea :=
  let p := s.busRead16ZeroPage z
  ⟨p.1 + s.cpu.y.setWidth 16, pageCross p.1 s.cpu.y, p.2⟩

/-- REL (R116): the offset, sign-extended, from the address of the next instruction, which `pc` holds. -/
def relTarget (o : Byte) (s : State) : Addr := s.cpu.pc + o.signExtend 16

/-! ## Shapes -/

/-- IMM: the operand is the byte after the opcode, which the fetch has read (R105). -/
def immOp (f : Byte → Cpu → Cpu) (cycles : Nat) (v : Byte) (s : State) : State :=
  (s.mapCpu (f v)).addCycles cycles

/-- IMP and ACC: registers and flags only. -/
def regOp (f : Cpu → Cpu) (cycles : Nat) (s : State) : State := (s.mapCpu f).addCycles cycles

/-- One data read at the effective address, then registers and flags (R102); no page penalty. -/
def readOp (f : Byte → Cpu → Cpu) (cycles : Nat) (e : Ea) : State :=
  let m := e.st.busRead e.addr
  (m.2.mapCpu (f m.1)).addCycles cycles

/-- As `readOp`, with one cycle more when the page is crossed (R124 a: an opcode marked `+`). -/
def readOpPaged (f : Byte → Cpu → Cpu) (cycles : Nat) (e : Ea) : State :=
  readOp f (cycles + bitNat e.crossed) e

/-- One data write at the effective address and no read of it (R140, R144); fixed cost. -/
def storeOp (v : Byte) (cycles : Nat) (e : Ea) : State := (e.st.busWrite e.addr v).addCycles cycles

/-- Read-modify-write: one read, one write of the result to the same address, then the flags (R102, R190); fixed
cost. -/
def modifyOp (f : Byte → Flags → Byte × Flags) (cycles : Nat) (e : Ea) : State :=
  let m := e.st.busRead e.addr
  let r := f m.1 m.2.cpu.f
  ((m.2.busWrite e.addr r.1).mapFlags fun _ => r.2).addCycles cycles

/-- A shift or rotate of the accumulator (R190). -/
def accOp (f : Byte → Flags → Byte × Flags) (cycles : Nat) (s : State) : State :=
  let r := f s.cpu.a s.cpu.f
  (s.mapCpu fun c => { c with a := r.1, f := r.2 }).addCycles cycles

/-- A conditional branch (R203): 2 cycles, 3 when taken, 4 when taken to another page than the next instruction's. -/
def branchOp (taken : Bool) (o : Byte) (s : State) : State :=
  let target := relTarget o s
  if taken then (s.setPc target).addCycles (2 + (1 + bitNat (highByte target != highByte s.cpu.pc)))
  else s.addCycles 2

end Sys2Proof.Machine
end

