-- ==== Sys2Proof/Machine/Arith.lean ====
section
/-! DEFINITION. Arithmetic, logic, compare, bit test, increment and decrement (spec/41_arithmetic_logic.md R160 to R176). -/

namespace Sys2Proof.Machine

/-! ## Effects on the registers -/

/-- ADC's effect on the registers (R161). -/
def Cpu.adc (m : Byte) (c : Cpu) : Cpu :=
  let o := addWithCarry c.a m c.f.c
  { c with a := o.r, f := c.f.setSum o }

/-- SBC's effect on the registers (R162). -/
def Cpu.sbc (m : Byte) (c : Cpu) : Cpu :=
  let o := subtractWithBorrow c.a m c.f.c
  { c with a := o.r, f := c.f.setSum o }

/-- AND (R163). -/
def Cpu.and (m : Byte) (c : Cpu) : Cpu := { c with a := c.a &&& m, f := c.f.setZN (c.a &&& m) }

/-- ORA (R164). -/
def Cpu.ora (m : Byte) (c : Cpu) : Cpu := { c with a := c.a ||| m, f := c.f.setZN (c.a ||| m) }

/-- EOR (R165). -/
def Cpu.eor (m : Byte) (c : Cpu) : Cpu := { c with a := c.a ^^^ m, f := c.f.setZN (c.a ^^^ m) }

/-- CMP (R166). -/
def Cpu.cmp (m : Byte) (c : Cpu) : Cpu := { c with f := c.f.compare c.a m }

/-- CPX (R167). -/
def Cpu.cpx (m : Byte) (c : Cpu) : Cpu := { c with f := c.f.compare c.x m }

/-- CPY (R168). -/
def Cpu.cpy (m : Byte) (c : Cpu) : Cpu := { c with f := c.f.compare c.y m }

/-- BIT (R169). -/
def Cpu.bit (m : Byte) (c : Cpu) : Cpu := { c with f := c.f.bitTest c.a m }

/-- INX (R172). -/
def Cpu.inx (c : Cpu) : Cpu := { c with x := c.x + 1#8, f := c.f.setZN (c.x + 1#8) }

/-- INY (R173). -/
def Cpu.iny (c : Cpu) : Cpu := { c with y := c.y + 1#8, f := c.f.setZN (c.y + 1#8) }

/-- DEX (R174). -/
def Cpu.dex (c : Cpu) : Cpu := { c with x := c.x - 1#8, f := c.f.setZN (c.x - 1#8) }

/-- DEY (R175). -/
def Cpu.dey (c : Cpu) : Cpu := { c with y := c.y - 1#8, f := c.f.setZN (c.y - 1#8) }

/-! ## The meanings -/

/-- ADC immediate (R161, R105). -/
def execAdcImm (v : Byte) (s : State) : Result := .next (immOp Cpu.adc 2 v s)

/-- ADC zero page (R161, R106). -/
def execAdcZp (z : Byte) (s : State) : Result := .next (readOp Cpu.adc 3 (eaZp z s))

/-- ADC zero page,X (R161, R107). -/
def execAdcZpx (z : Byte) (s : State) : Result := .next (readOp Cpu.adc 4 (eaZpx z s))

/-- ADC absolute (R161, R109). -/
def execAdcAbs (w : Addr) (s : State) : Result := .next (readOp Cpu.adc 4 (eaAbs w s))

/-- ADC absolute,X (R161, R110). -/
def execAdcAbsx (w : Addr) (s : State) : Result := .next (readOpPaged Cpu.adc 4 (eaAbsx w s))

/-- ADC absolute,Y (R161, R111). -/
def execAdcAbsy (w : Addr) (s : State) : Result := .next (readOpPaged Cpu.adc 4 (eaAbsy w s))

/-- ADC (indirect,X) (R161, R114). -/
def execAdcIzx (z : Byte) (s : State) : Result := .next (readOp Cpu.adc 6 (eaIzx z s))

/-- ADC (indirect),Y (R161, R115). -/
def execAdcIzy (z : Byte) (s : State) : Result := .next (readOpPaged Cpu.adc 5 (eaIzy z s))

/-- SBC immediate (R162, R105). -/
def execSbcImm (v : Byte) (s : State) : Result := .next (immOp Cpu.sbc 2 v s)

/-- SBC zero page (R162, R106). -/
def execSbcZp (z : Byte) (s : State) : Result := .next (readOp Cpu.sbc 3 (eaZp z s))

/-- SBC zero page,X (R162, R107). -/
def execSbcZpx (z : Byte) (s : State) : Result := .next (readOp Cpu.sbc 4 (eaZpx z s))

/-- SBC absolute (R162, R109). -/
def execSbcAbs (w : Addr) (s : State) : Result := .next (readOp Cpu.sbc 4 (eaAbs w s))

/-- SBC absolute,X (R162, R110). -/
def execSbcAbsx (w : Addr) (s : State) : Result := .next (readOpPaged Cpu.sbc 4 (eaAbsx w s))

/-- SBC absolute,Y (R162, R111). -/
def execSbcAbsy (w : Addr) (s : State) : Result := .next (readOpPaged Cpu.sbc 4 (eaAbsy w s))

/-- SBC (indirect,X) (R162, R114). -/
def execSbcIzx (z : Byte) (s : State) : Result := .next (readOp Cpu.sbc 6 (eaIzx z s))

/-- SBC (indirect),Y (R162, R115). -/
def execSbcIzy (z : Byte) (s : State) : Result := .next (readOpPaged Cpu.sbc 5 (eaIzy z s))

/-- AND immediate (R163, R105). -/
def execAndImm (v : Byte) (s : State) : Result := .next (immOp Cpu.and 2 v s)

/-- AND zero page (R163, R106). -/
def execAndZp (z : Byte) (s : State) : Result := .next (readOp Cpu.and 3 (eaZp z s))

/-- AND zero page,X (R163, R107). -/
def execAndZpx (z : Byte) (s : State) : Result := .next (readOp Cpu.and 4 (eaZpx z s))

/-- AND absolute (R163, R109). -/
def execAndAbs (w : Addr) (s : State) : Result := .next (readOp Cpu.and 4 (eaAbs w s))

/-- AND absolute,X (R163, R110). -/
def execAndAbsx (w : Addr) (s : State) : Result := .next (readOpPaged Cpu.and 4 (eaAbsx w s))

/-- AND absolute,Y (R163, R111). -/
def execAndAbsy (w : Addr) (s : State) : Result := .next (readOpPaged Cpu.and 4 (eaAbsy w s))

/-- AND (indirect,X) (R163, R114). -/
def execAndIzx (z : Byte) (s : State) : Result := .next (readOp Cpu.and 6 (eaIzx z s))

/-- AND (indirect),Y (R163, R115). -/
def execAndIzy (z : Byte) (s : State) : Result := .next (readOpPaged Cpu.and 5 (eaIzy z s))

/-- ORA immediate (R164, R105). -/
def execOraImm (v : Byte) (s : State) : Result := .next (immOp Cpu.ora 2 v s)

/-- ORA zero page (R164, R106). -/
def execOraZp (z : Byte) (s : State) : Result := .next (readOp Cpu.ora 3 (eaZp z s))

/-- ORA zero page,X (R164, R107). -/
def execOraZpx (z : Byte) (s : State) : Result := .next (readOp Cpu.ora 4 (eaZpx z s))

/-- ORA absolute (R164, R109). -/
def execOraAbs (w : Addr) (s : State) : Result := .next (readOp Cpu.ora 4 (eaAbs w s))

/-- ORA absolute,X (R164, R110). -/
def execOraAbsx (w : Addr) (s : State) : Result := .next (readOpPaged Cpu.ora 4 (eaAbsx w s))

/-- ORA absolute,Y (R164, R111). -/
def execOraAbsy (w : Addr) (s : State) : Result := .next (readOpPaged Cpu.ora 4 (eaAbsy w s))

/-- ORA (indirect,X) (R164, R114). -/
def execOraIzx (z : Byte) (s : State) : Result := .next (readOp Cpu.ora 6 (eaIzx z s))

/-- ORA (indirect),Y (R164, R115). -/
def execOraIzy (z : Byte) (s : State) : Result := .next (readOpPaged Cpu.ora 5 (eaIzy z s))

/-- EOR immediate (R165, R105). -/
def execEorImm (v : Byte) (s : State) : Result := .next (immOp Cpu.eor 2 v s)

/-- EOR zero page (R165, R106). -/
def execEorZp (z : Byte) (s : State) : Result := .next (readOp Cpu.eor 3 (eaZp z s))

/-- EOR zero page,X (R165, R107). -/
def execEorZpx (z : Byte) (s : State) : Result := .next (readOp Cpu.eor 4 (eaZpx z s))

/-- EOR absolute (R165, R109). -/
def execEorAbs (w : Addr) (s : State) : Result := .next (readOp Cpu.eor 4 (eaAbs w s))

/-- EOR absolute,X (R165, R110). -/
def execEorAbsx (w : Addr) (s : State) : Result := .next (readOpPaged Cpu.eor 4 (eaAbsx w s))

/-- EOR absolute,Y (R165, R111). -/
def execEorAbsy (w : Addr) (s : State) : Result := .next (readOpPaged Cpu.eor 4 (eaAbsy w s))

/-- EOR (indirect,X) (R165, R114). -/
def execEorIzx (z : Byte) (s : State) : Result := .next (readOp Cpu.eor 6 (eaIzx z s))

/-- EOR (indirect),Y (R165, R115). -/
def execEorIzy (z : Byte) (s : State) : Result := .next (readOpPaged Cpu.eor 5 (eaIzy z s))

/-- CMP immediate (R166, R105). -/
def execCmpImm (v : Byte) (s : State) : Result := .next (immOp Cpu.cmp 2 v s)

/-- CMP zero page (R166, R106). -/
def execCmpZp (z : Byte) (s : State) : Result := .next (readOp Cpu.cmp 3 (eaZp z s))

/-- CMP zero page,X (R166, R107). -/
def execCmpZpx (z : Byte) (s : State) : Result := .next (readOp Cpu.cmp 4 (eaZpx z s))

/-- CMP absolute (R166, R109). -/
def execCmpAbs (w : Addr) (s : State) : Result := .next (readOp Cpu.cmp 4 (eaAbs w s))

/-- CMP absolute,X (R166, R110). -/
def execCmpAbsx (w : Addr) (s : State) : Result := .next (readOpPaged Cpu.cmp 4 (eaAbsx w s))

/-- CMP absolute,Y (R166, R111). -/
def execCmpAbsy (w : Addr) (s : State) : Result := .next (readOpPaged Cpu.cmp 4 (eaAbsy w s))

/-- CMP (indirect,X) (R166, R114). -/
def execCmpIzx (z : Byte) (s : State) : Result := .next (readOp Cpu.cmp 6 (eaIzx z s))

/-- CMP (indirect),Y (R166, R115). -/
def execCmpIzy (z : Byte) (s : State) : Result := .next (readOpPaged Cpu.cmp 5 (eaIzy z s))

/-- CPX immediate (R167, R105). -/
def execCpxImm (v : Byte) (s : State) : Result := .next (immOp Cpu.cpx 2 v s)

/-- CPX zero page (R167, R106). -/
def execCpxZp (z : Byte) (s : State) : Result := .next (readOp Cpu.cpx 3 (eaZp z s))

/-- CPX absolute (R167, R109). -/
def execCpxAbs (w : Addr) (s : State) : Result := .next (readOp Cpu.cpx 4 (eaAbs w s))

/-- CPY immediate (R168, R105). -/
def execCpyImm (v : Byte) (s : State) : Result := .next (immOp Cpu.cpy 2 v s)

/-- CPY zero page (R168, R106). -/
def execCpyZp (z : Byte) (s : State) : Result := .next (readOp Cpu.cpy 3 (eaZp z s))

/-- CPY absolute (R168, R109). -/
def execCpyAbs (w : Addr) (s : State) : Result := .next (readOp Cpu.cpy 4 (eaAbs w s))

/-- BIT zero page (R169, R106). -/
def execBitZp (z : Byte) (s : State) : Result := .next (readOp Cpu.bit 3 (eaZp z s))

/-- BIT absolute (R169, R109). -/
def execBitAbs (w : Addr) (s : State) : Result := .next (readOp Cpu.bit 4 (eaAbs w s))

/-- INC zero page (R170, R106). -/
def execIncZp (z : Byte) (s : State) : Result := .next (modifyOp incByte 5 (eaZp z s))

/-- INC zero page,X (R170, R107). -/
def execIncZpx (z : Byte) (s : State) : Result := .next (modifyOp incByte 6 (eaZpx z s))

/-- INC absolute (R170, R109). -/
def execIncAbs (w : Addr) (s : State) : Result := .next (modifyOp incByte 6 (eaAbs w s))

/-- INC absolute,X (R170, R110). -/
def execIncAbsx (w : Addr) (s : State) : Result := .next (modifyOp incByte 7 (eaAbsx w s))

/-- DEC zero page (R171, R106). -/
def execDecZp (z : Byte) (s : State) : Result := .next (modifyOp decByte 5 (eaZp z s))

/-- DEC zero page,X (R171, R107). -/
def execDecZpx (z : Byte) (s : State) : Result := .next (modifyOp decByte 6 (eaZpx z s))

/-- DEC absolute (R171, R109). -/
def execDecAbs (w : Addr) (s : State) : Result := .next (modifyOp decByte 6 (eaAbs w s))

/-- DEC absolute,X (R171, R110). -/
def execDecAbsx (w : Addr) (s : State) : Result := .next (modifyOp decByte 7 (eaAbsx w s))

/-- INX implied (R172). -/
def execInx (s : State) : Result := .next (regOp Cpu.inx 2 s)

/-- INY implied (R173). -/
def execIny (s : State) : Result := .next (regOp Cpu.iny 2 s)

/-- DEX implied (R174). -/
def execDex (s : State) : Result := .next (regOp Cpu.dex 2 s)

/-- DEY implied (R175). -/
def execDey (s : State) : Result := .next (regOp Cpu.dey 2 s)

end Sys2Proof.Machine
end

