-- ==== Sys2Proof/Machine/Control.lean ====
section
/-! DEFINITION. Jumps, subroutine call and return, conditional branches (spec/43_control_flow.md R200 to R212). The program
counter on entry is the address after the instruction. -/

namespace Sys2Proof.Machine

/-- JMP absolute (R201, R109). -/
def execJmpAbs (w : Addr) (s : State) : Result := .next ((s.setPc (eaAbs w s).addr).addCycles 3)

/-- JMP indirect (R201, R112). -/
def execJmpInd (w : Addr) (s : State) : Result := .next (((eaInd w s).st.setPc (eaInd w s).addr).addCycles 5)

/-- JSR absolute (R202, R109). -/
def execJsr (w : Addr) (s : State) : Result := .next (((s.push16 (s.cpu.pc - 1#16)).setPc (eaAbs w s).addr).addCycles 6)

/-- RTS implied (R204). -/
def execRts (s : State) : Result := .next ((s.pull16.2.setPc (s.pull16.1 + 1#16)).addCycles 6)

/-- BCC relative (R205, R116). -/
def execBcc (o : Byte) (s : State) : Result := .next (branchOp (!s.cpu.f.c) o s)

/-- BCS relative (R206, R116). -/
def execBcs (o : Byte) (s : State) : Result := .next (branchOp (s.cpu.f.c) o s)

/-- BEQ relative (R207, R116). -/
def execBeq (o : Byte) (s : State) : Result := .next (branchOp (s.cpu.f.z) o s)

/-- BNE relative (R208, R116). -/
def execBne (o : Byte) (s : State) : Result := .next (branchOp (!s.cpu.f.z) o s)

/-- BMI relative (R209, R116). -/
def execBmi (o : Byte) (s : State) : Result := .next (branchOp (s.cpu.f.n) o s)

/-- BPL relative (R210, R116). -/
def execBpl (o : Byte) (s : State) : Result := .next (branchOp (!s.cpu.f.n) o s)

/-- BVC relative (R211, R116). -/
def execBvc (o : Byte) (s : State) : Result := .next (branchOp (!s.cpu.f.v) o s)

/-- BVS relative (R212, R116). -/
def execBvs (o : Byte) (s : State) : Result := .next (branchOp (s.cpu.f.v) o s)

end Sys2Proof.Machine
end

