-- ==== Sys2Proof/Machine/LoadStore.lean ====
section
/-! DEFINITION. Loads, stores and register transfers (spec/40_load_store_transfer.md R140 to R152). -/

namespace Sys2Proof.Machine

/-! ## Effects on the registers -/

/-- LDA's effect on the registers: A from the byte, Z and N from it (R141). -/
def Cpu.lda (m : Byte) (c : Cpu) : Cpu := { c with a := m, f := c.f.setZN m }

/-- LDX's effect on the registers (R142). -/
def Cpu.ldx (m : Byte) (c : Cpu) : Cpu := { c with x := m, f := c.f.setZN m }

/-- LDY's effect on the registers (R143). -/
def Cpu.ldy (m : Byte) (c : Cpu) : Cpu := { c with y := m, f := c.f.setZN m }

/-- TAX (R147). -/
def Cpu.tax (c : Cpu) : Cpu := c.ldx c.a

/-- TAY (R148). -/
def Cpu.tay (c : Cpu) : Cpu := c.ldy c.a

/-- TXA (R149). -/
def Cpu.txa (c : Cpu) : Cpu := c.lda c.x

/-- TYA (R150). -/
def Cpu.tya (c : Cpu) : Cpu := c.lda c.y

/-- TSX (R151). -/
def Cpu.tsx (c : Cpu) : Cpu := c.ldx c.sp

/-- TXS (R152): the one transfer that writes no flag. -/
def Cpu.txs (c : Cpu) : Cpu := { c with sp := c.x }

/-! ## The meanings -/

/-- LDA immediate (R141, R105). -/
def execLdaImm (v : Byte) (s : State) : Result := .next (immOp Cpu.lda 2 v s)

/-- LDA zero page (R141, R106). -/
def execLdaZp (z : Byte) (s : State) : Result := .next (readOp Cpu.lda 3 (eaZp z s))

/-- LDA zero page,X (R141, R107). -/
def execLdaZpx (z : Byte) (s : State) : Result := .next (readOp Cpu.lda 4 (eaZpx z s))

/-- LDA absolute (R141, R109). -/
def execLdaAbs (w : Addr) (s : State) : Result := .next (readOp Cpu.lda 4 (eaAbs w s))

/-- LDA absolute,X (R141, R110). -/
def execLdaAbsx (w : Addr) (s : State) : Result := .next (readOpPaged Cpu.lda 4 (eaAbsx w s))

/-- LDA absolute,Y (R141, R111). -/
def execLdaAbsy (w : Addr) (s : State) : Result := .next (readOpPaged Cpu.lda 4 (eaAbsy w s))

/-- LDA (indirect,X) (R141, R114). -/
def execLdaIzx (z : Byte) (s : State) : Result := .next (readOp Cpu.lda 6 (eaIzx z s))

/-- LDA (indirect),Y (R141, R115). -/
def execLdaIzy (z : Byte) (s : State) : Result := .next (readOpPaged Cpu.lda 5 (eaIzy z s))

/-- LDX immediate (R142, R105). -/
def execLdxImm (v : Byte) (s : State) : Result := .next (immOp Cpu.ldx 2 v s)

/-- LDX zero page (R142, R106). -/
def execLdxZp (z : Byte) (s : State) : Result := .next (readOp Cpu.ldx 3 (eaZp z s))

/-- LDX zero page,Y (R142, R108). -/
def execLdxZpy (z : Byte) (s : State) : Result := .next (readOp Cpu.ldx 4 (eaZpy z s))

/-- LDX absolute (R142, R109). -/
def execLdxAbs (w : Addr) (s : State) : Result := .next (readOp Cpu.ldx 4 (eaAbs w s))

/-- LDX absolute,Y (R142, R111). -/
def execLdxAbsy (w : Addr) (s : State) : Result := .next (readOpPaged Cpu.ldx 4 (eaAbsy w s))

/-- LDY immediate (R143, R105). -/
def execLdyImm (v : Byte) (s : State) : Result := .next (immOp Cpu.ldy 2 v s)

/-- LDY zero page (R143, R106). -/
def execLdyZp (z : Byte) (s : State) : Result := .next (readOp Cpu.ldy 3 (eaZp z s))

/-- LDY zero page,X (R143, R107). -/
def execLdyZpx (z : Byte) (s : State) : Result := .next (readOp Cpu.ldy 4 (eaZpx z s))

/-- LDY absolute (R143, R109). -/
def execLdyAbs (w : Addr) (s : State) : Result := .next (readOp Cpu.ldy 4 (eaAbs w s))

/-- LDY absolute,X (R143, R110). -/
def execLdyAbsx (w : Addr) (s : State) : Result := .next (readOpPaged Cpu.ldy 4 (eaAbsx w s))

/-- STA zero page (R144, R106). -/
def execStaZp (z : Byte) (s : State) : Result := .next (storeOp s.cpu.a 3 (eaZp z s))

/-- STA zero page,X (R144, R107). -/
def execStaZpx (z : Byte) (s : State) : Result := .next (storeOp s.cpu.a 4 (eaZpx z s))

/-- STA absolute (R144, R109). -/
def execStaAbs (w : Addr) (s : State) : Result := .next (storeOp s.cpu.a 4 (eaAbs w s))

/-- STA absolute,X (R144, R110). -/
def execStaAbsx (w : Addr) (s : State) : Result := .next (storeOp s.cpu.a 5 (eaAbsx w s))

/-- STA absolute,Y (R144, R111). -/
def execStaAbsy (w : Addr) (s : State) : Result := .next (storeOp s.cpu.a 5 (eaAbsy w s))

/-- STA (indirect,X) (R144, R114). -/
def execStaIzx (z : Byte) (s : State) : Result := .next (storeOp s.cpu.a 6 (eaIzx z s))

/-- STA (indirect),Y (R144, R115). -/
def execStaIzy (z : Byte) (s : State) : Result := .next (storeOp s.cpu.a 6 (eaIzy z s))

/-- STX zero page (R145, R106). -/
def execStxZp (z : Byte) (s : State) : Result := .next (storeOp s.cpu.x 3 (eaZp z s))

/-- STX zero page,Y (R145, R108). -/
def execStxZpy (z : Byte) (s : State) : Result := .next (storeOp s.cpu.x 4 (eaZpy z s))

/-- STX absolute (R145, R109). -/
def execStxAbs (w : Addr) (s : State) : Result := .next (storeOp s.cpu.x 4 (eaAbs w s))

/-- STY zero page (R146, R106). -/
def execStyZp (z : Byte) (s : State) : Result := .next (storeOp s.cpu.y 3 (eaZp z s))

/-- STY zero page,X (R146, R107). -/
def execStyZpx (z : Byte) (s : State) : Result := .next (storeOp s.cpu.y 4 (eaZpx z s))

/-- STY absolute (R146, R109). -/
def execStyAbs (w : Addr) (s : State) : Result := .next (storeOp s.cpu.y 4 (eaAbs w s))

/-- TAX implied (R147). -/
def execTax (s : State) : Result := .next (regOp Cpu.tax 2 s)

/-- TAY implied (R148). -/
def execTay (s : State) : Result := .next (regOp Cpu.tay 2 s)

/-- TXA implied (R149). -/
def execTxa (s : State) : Result := .next (regOp Cpu.txa 2 s)

/-- TYA implied (R150). -/
def execTya (s : State) : Result := .next (regOp Cpu.tya 2 s)

/-- TSX implied (R151). -/
def execTsx (s : State) : Result := .next (regOp Cpu.tsx 2 s)

/-- TXS implied (R152). -/
def execTxs (s : State) : Result := .next (regOp Cpu.txs 2 s)

end Sys2Proof.Machine
end

