-- ==== Sys2Proof/Machine/Shift.lean ====
section
/-! DEFINITION. Shifts and rotates (spec/42_shift_rotate.md R190 to R194). -/

namespace Sys2Proof.Machine

/-- ASL accumulator (R191, R104). -/
def execAslAcc (s : State) : Result := .next (accOp aslByte 2 s)

/-- ASL zero page (R191, R106). -/
def execAslZp (z : Byte) (s : State) : Result := .next (modifyOp aslByte 5 (eaZp z s))

/-- ASL zero page,X (R191, R107). -/
def execAslZpx (z : Byte) (s : State) : Result := .next (modifyOp aslByte 6 (eaZpx z s))

/-- ASL absolute (R191, R109). -/
def execAslAbs (w : Addr) (s : State) : Result := .next (modifyOp aslByte 6 (eaAbs w s))

/-- ASL absolute,X (R191, R110). -/
def execAslAbsx (w : Addr) (s : State) : Result := .next (modifyOp aslByte 7 (eaAbsx w s))

/-- LSR accumulator (R192, R104). -/
def execLsrAcc (s : State) : Result := .next (accOp lsrByte 2 s)

/-- LSR zero page (R192, R106). -/
def execLsrZp (z : Byte) (s : State) : Result := .next (modifyOp lsrByte 5 (eaZp z s))

/-- LSR zero page,X (R192, R107). -/
def execLsrZpx (z : Byte) (s : State) : Result := .next (modifyOp lsrByte 6 (eaZpx z s))

/-- LSR absolute (R192, R109). -/
def execLsrAbs (w : Addr) (s : State) : Result := .next (modifyOp lsrByte 6 (eaAbs w s))

/-- LSR absolute,X (R192, R110). -/
def execLsrAbsx (w : Addr) (s : State) : Result := .next (modifyOp lsrByte 7 (eaAbsx w s))

/-- ROL accumulator (R193, R104). -/
def execRolAcc (s : State) : Result := .next (accOp rolByte 2 s)

/-- ROL zero page (R193, R106). -/
def execRolZp (z : Byte) (s : State) : Result := .next (modifyOp rolByte 5 (eaZp z s))

/-- ROL zero page,X (R193, R107). -/
def execRolZpx (z : Byte) (s : State) : Result := .next (modifyOp rolByte 6 (eaZpx z s))

/-- ROL absolute (R193, R109). -/
def execRolAbs (w : Addr) (s : State) : Result := .next (modifyOp rolByte 6 (eaAbs w s))

/-- ROL absolute,X (R193, R110). -/
def execRolAbsx (w : Addr) (s : State) : Result := .next (modifyOp rolByte 7 (eaAbsx w s))

/-- ROR accumulator (R194, R104). -/
def execRorAcc (s : State) : Result := .next (accOp rorByte 2 s)

/-- ROR zero page (R194, R106). -/
def execRorZp (z : Byte) (s : State) : Result := .next (modifyOp rorByte 5 (eaZp z s))

/-- ROR zero page,X (R194, R107). -/
def execRorZpx (z : Byte) (s : State) : Result := .next (modifyOp rorByte 6 (eaZpx z s))

/-- ROR absolute (R194, R109). -/
def execRorAbs (w : Addr) (s : State) : Result := .next (modifyOp rorByte 6 (eaAbs w s))

/-- ROR absolute,X (R194, R110). -/
def execRorAbsx (w : Addr) (s : State) : Result := .next (modifyOp rorByte 7 (eaAbsx w s))

end Sys2Proof.Machine
end

