-- ==== Sys2Proof/Machine/System.lean ====
section
/-! DEFINITION. Stack, flag, no-operation and system instructions (spec/44_stack_flags_system.md R220 to R235). -/

namespace Sys2Proof.Machine

/-! ## Effects on the registers -/

/-- CLC (R225). -/
def Cpu.clc (c : Cpu) : Cpu := { c with f := { c.f with c := false } }

/-- SEC (R226). -/
def Cpu.sec (c : Cpu) : Cpu := { c with f := { c.f with c := true } }

/-- CLI (R227). -/
def Cpu.cli (c : Cpu) : Cpu := { c with f := { c.f with i := false } }

/-- SEI (R228). -/
def Cpu.sei (c : Cpu) : Cpu := { c with f := { c.f with i := true } }

/-- CLD (R229). -/
def Cpu.cld (c : Cpu) : Cpu := { c with f := { c.f with d := false } }

/-- SED (R230). -/
def Cpu.sed (c : Cpu) : Cpu := { c with f := { c.f with d := true } }

/-- CLV (R231). -/
def Cpu.clv (c : Cpu) : Cpu := { c with f := { c.f with v := false } }

/-! ## The meanings -/

/-- PHA implied (R221). -/
def execPha (s : State) : Result := .next ((s.push8 s.cpu.a).addCycles 3)

/-- PLA implied (R222). -/
def execPla (s : State) : Result := .next ((s.pull8.2.mapCpu (Cpu.lda s.pull8.1)).addCycles 4)

/-- PHP implied (R223). -/
def execPhp (s : State) : Result := .next ((s.push8 s.cpu.f.pushedByBreak).addCycles 3)

/-- PLP implied (R224). -/
def execPlp (s : State) : Result := .next ((s.pull8.2.mapFlags (Flags.setStatus s.pull8.1)).addCycles 4)

/-- CLC implied (R225). -/
def execClc (s : State) : Result := .next (regOp Cpu.clc 2 s)

/-- SEC implied (R226). -/
def execSec (s : State) : Result := .next (regOp Cpu.sec 2 s)

/-- CLI implied (R227). -/
def execCli (s : State) : Result := .next (regOp Cpu.cli 2 s)

/-- SEI implied (R228). -/
def execSei (s : State) : Result := .next (regOp Cpu.sei 2 s)

/-- CLD implied (R229). -/
def execCld (s : State) : Result := .next (regOp Cpu.cld 2 s)

/-- SED implied (R230). -/
def execSed (s : State) : Result := .next (regOp Cpu.sed 2 s)

/-- CLV implied (R231). -/
def execClv (s : State) : Result := .next (regOp Cpu.clv 2 s)

/-- NOP implied (R232). -/
def execNop (s : State) : Result := .next (regOp id 2 s)

/-- BRK implied (R233). -/
def execBrk (s : State) : Result := .next ((s.enterTrap (s.cpu.pc + 1#16) s.cpu.f.pushedByBreak 0xFFFE#16).addCycles 7)

/-- RTI implied (R234). -/
def execRti (s : State) : Result := .next (s.returnFromTrap.addCycles 6)

end Sys2Proof.Machine
end

