-- ==== Sys2Proof/Machine/Processor.lean ====
section
/-! DEFINITION. The processor's step (spec/30_encoding.md R100): the interrupt poll, the entry, or the fetch and the
execution of one instruction. -/

namespace Sys2Proof.Machine

/-- One byte fetched at PC; PC advances modulo 65536 (R25, R26, R100). A fetch is a bus read like any other (R51). -/
def State.fetchByte (s : State) : Byte × State :=
  let m := s.busRead s.cpu.pc
  (m.1, m.2.setPc (m.2.cpu.pc + 1#16))

/-- `n` operand bytes fetched in address order. -/
def State.fetchBytes : Nat → State → List Byte × State
  | 0, s => ([], s)
  | n + 1, s =>
    let b := s.fetchByte
    let rest := State.fetchBytes n b.2
    (b.1 :: rest.1, rest.2)

/-- What a fetch gives: the opcode byte, the instruction its bytes decode to, and the state the fetch leaves. -/
structure Fetched where
  op : Byte
  instr : Option Instr
  st : State

/-- The fetch of one instruction: the opcode byte, which fixes the length (R122), then its operand bytes. -/
def State.fetch (s : State) : Fetched :=
  let op := s.fetchByte
  match opForm op.1 with
  | none => ⟨op.1, none, op.2⟩
  | some form =>
    let rest := State.fetchBytes form.operandBytes op.2
    match decode (op.1 :: rest.1) with
    | .ok (i, _) => ⟨op.1, some i, rest.2⟩
    | .error _ => ⟨op.1, none, rest.2⟩

/-- `CPU.Step()` (R100): an interrupt entry executes no instruction; an undefined opcode is refused (R120). -/
def cpuStep (s : State) : Result :=
  match s.pollInterrupts with
  | (some k, s) => .next (s.enterInterrupt k)
  | (none, s) =>
    match s.fetch with
    | ⟨_, some i, s⟩ => exec i s
    | ⟨op, none, _⟩ => .refused (.undefinedOpcode op)

end Sys2Proof.Machine
end

