-- ==== Sys2Proof/Machine/Scheduler.lean ====
section
/-! DEFINITION. The scheduler (spec/60_exceptions.md R270 to R279): one step of the machine is one `CPU.Step()` with
what the external agents do at its boundaries and the picture batches that then fall due (log 11). -/

namespace Sys2Proof.Machine

/-- The end of iterations of the scheduler's loop (R275, R276), at most `n` of them: while 114 cycles have accumulated, a
picture batch, then the remainder carried over; at the top of the next iteration `stop` is read. DESIGN CHOICE (log 19): when
several iterations fall due between two processor steps, no boundary move lands among them, so `stop` at their tops is what
it was at the processor step. -/
def State.runIterations : Nat → State → State
  | 0, s => s
  | n + 1, s =>
    if s.sched.acc < 114 then s
    else
      let s := s.pictureBatch
      let s := { s with sched := { s.sched with acc := s.sched.acc - 114, atTop := true } }
      if s.sched.stop then s else State.runIterations n s

/-- Every iteration that ends now: each takes 114 cycles off the accumulator. -/
def State.settle (s : State) : State := s.runIterations (s.sched.acc / 114)

/-- What follows a processor step before the next one: the picture unit's calls on account of a register access, its
OAM-DMA reads, and the picture batches (R279, R60, R275). -/
def State.endOfStep (s : State) : State :=
  let s := s.reactions.oamDma
  State.settle { s with dev := { s.dev with ppuTouched := false, oamPage := none } }

/-- One step of the machine: the moves at the instruction boundary; the end of the run if `stop` is set at the top of an
iteration (R276); else the next `CPU.Step()`, which the scheduler makes while fewer than 114 cycles have accumulated
(R275), and what follows it. -/
def schedulerStep (s : State) : Result :=
  let s := s.atBoundary
  if s.sched.atTop && s.sched.stop then .fault .stopped
  else if s.sched.acc ≥ 114 then .next s.settle
  else
    match cpuStep { s with sched := { s.sched with atTop := false } } with
    | .next t => .next t.endOfStep
    | .fault r => .fault r
    | .refused r => .refused r

/-- Bytes placed at consecutive addresses from outside the machine. -/
def State.pokeBytes : List Byte → Addr → State → State
  | [], _, s => s
  | v :: vs, a, s => State.pokeBytes vs (a + 1#16) (s.poke a v)

/-- The state whose next step fetches an instruction: no move at the boundary, no pending mark, fewer than 114 cycles
accumulated, not at a stop. -/
def State.readyToFetch (s : State) : State :=
  { s with
    env := { s.env with boundary := [] }
    pend := { reset := false, nmi := false, irq := false }
    sched := { s.sched with acc := if s.sched.acc < 114 then s.sched.acc else 0, atTop := s.sched.atTop && !s.sched.stop } }

end Sys2Proof.Machine
end

