-- ==== Sys2Proof/Machine/Step.lean ====
section
/-! DEFINITION. The machine's step, and the placing of one instruction where the next step fetches it. -/

namespace Sys2Proof.Machine

/-- One step of the machine (`schedulerStep`). -/
def step (s : State) : Host.Outcome State Fault Refusal := schedulerStep s

/-- The state with the instruction of a table word stored where the next step fetches: its bytes from PC on, in storage
or in the PRG bytes those addresses show, and nothing that would make the next step do something else first
(log 2: this stands for the load of a program). A PC in a device register window holds no byte to place. -/
def State.withFetchWord (s : State) (nbits w : Nat) : State :=
  (State.pokeBytes (tableWordBytes nbits w) s.cpu.pc s).readyToFetch

end Sys2Proof.Machine
end

