-- ==== Sys2Proof/Machine/Loader.lean ====
section
/-! DEFINITION. The cartridge loader and power-on (spec/60_exceptions.md R280, R281; spec/70_reset_and_hazards.md
R351). -/

namespace Sys2Proof.Machine

/-- Why an image does not load: no machine exists then (R281). -/
inductive LoadError where
  /-- Bytes 0 to 3 are not 0x4E 0x45 0x53 0x1A. -/
  | badMagic
  /-- A mapper number outside the list of R281. -/
  | unsupportedMapper (number : Nat)
  /-- No PRG bank. -/
  | noPrg
  /-- Fewer bytes than the header and its banks need. -/
  | shortImage
  deriving DecidableEq, Repr

/-- What the loader derives from an image (R281). -/
structure Image where
  cart : Cart
  variant : Variant
  /-- The bytes of a CHR-ROM; nothing when `cart.chr8 = 0`. -/
  chrRom : Memory
  deriving DecidableEq, Repr

/-- The variant of a mapper number (R281). -/
def variantOf : Nat → Option Variant
  | 0 => some .nrom
  | 1 => some .mmc1
  | 2 => some .unrom
  | 3 => some .cnrom
  | 4 => some .mmc3
  | 5 => some .mmc5
  | 7 => some .axrom
  | 9 => some .mmc2
  | _ => none

/-- Header byte `k` of an image. -/
def headerByte (image : List Byte) (k : Nat) : Byte := image.getD k 0#8

/-- The mapper number: `(byte6 >> 4) | (byte7 & 0xF0)` (R280). -/
def mapperNumber (image : List Byte) : Nat :=
  ((headerByte image 6 >>> 4) ||| (headerByte image 7 &&& 0xF0#8)).toNat

/-- Loading a cartridge image (R280, R281): the checks, then the fields. Every header bit R280 does not list is ignored
(D27). -/
def loadImage (image : List Byte) : Except LoadError Image :=
  let prg16 := (headerByte image 4).toNat
  let chr8 := (headerByte image 5).toNat
  if image.length < 16 then .error .shortImage
  else if image.take 4 ≠ [0x4E#8, 0x45#8, 0x53#8, 0x1A#8] then .error .badMagic
  else
    match variantOf (mapperNumber image) with
    | none => .error (.unsupportedMapper (mapperNumber image))
    | some variant =>
      if prg16 = 0 then .error .noPrg
      else if image.length < 16 + 16384 * prg16 + 8192 * chr8 then .error .shortImage
      else
        .ok
          { cart :=
              { prg16 := prg16, chr8 := chr8
                vertical := (headerByte image 6).getLsbD 0
                battery := (headerByte image 6).getLsbD 1
                prg := memoryFrom 0 ((image.drop 16).take (16384 * prg16)) }
            variant := variant
            chrRom := memoryFrom 0 ((image.drop (16 + 16384 * prg16)).take (8192 * chr8)) }

/-- RAM_INIT: the contents at power-on of plain storage, of the two nametables and of a CHR-RAM (R7, D16). -/
structure RamInit where
  mem : Memory
  nt0 : Memory
  nt1 : Memory
  chrRam : Memory
  deriving DecidableEq, Repr

/-- The power-on procedure (R351) for a loaded image, a RAM_INIT, the parameters and the external agents' choices: the
mapper's load-time registers and the header's mirroring mode, the storage contents, everything else at its power-on
value, then PC from the vector at 0xFFFC. It is no step: `acc` stays 0. -/
def State.powerOn (im : Image) (ram : RamInit) (p : Params) (env : Env) : State :=
  let s : State :=
    { cpu := Cpu.powerOn 0#16
      pend := { reset := false, nmi := false, irq := false }
      mem := ram.mem, nt0 := ram.nt0, nt1 := ram.nt1
      mirror := if im.cart.vertical then .vertical else .horizontal
      pads := { buttons := 0#16, strobe := false, rd0 := 0, rd1 := 0 }
      mapper := MapperState.atLoad p im.variant
      cart := im.cart
      chr := if im.cart.chr8 = 0 then ram.chrRam else im.chrRom
      params := p
      sched := { acc := 0, stop := false, atTop := true }
      dev := { history := { events := [], ppuSteps := 0 }, ppuTouched := false, oamPage := none }
      env := env }
  let v := s.busRead16 0xFFFC#16
  v.2.setPc v.1

end Sys2Proof.Machine
end

