-- ==== Sys2Proof/WellFormed.lean ====
section
/-! DEFINITION. Well-formedness of instructions.

A term of `Instr` cannot be ill-formed: its operand has exactly the width of its operand bytes, and every value of
every operand byte is legal (spec/30_encoding.md R127). What can be ill-formed is an assembler triple `Asm`: a mnemonic
in a mode the opcode matrix has no cell for, or an operand too wide for the mode (R101, R119, R125). -/

namespace Sys2Proof

/-- The modes each mnemonic has, as the instruction rules list them (R141 to R234). -/
def Mnemonic.modes : Mnemonic → List Mode
  | .LDA | .ADC | .SBC | .AND | .ORA | .EOR | .CMP => [.IMM, .ZP, .ZPX, .ABS, .ABSX, .ABSY, .IZX, .IZY]
  | .STA => [.ZP, .ZPX, .ABS, .ABSX, .ABSY, .IZX, .IZY]
  | .LDX => [.IMM, .ZP, .ZPY, .ABS, .ABSY]
  | .LDY => [.IMM, .ZP, .ZPX, .ABS, .ABSX]
  | .STX => [.ZP, .ZPY, .ABS]
  | .STY => [.ZP, .ZPX, .ABS]
  | .CPX | .CPY => [.IMM, .ZP, .ABS]
  | .BIT => [.ZP, .ABS]
  | .INC | .DEC => [.ZP, .ZPX, .ABS, .ABSX]
  | .ASL | .LSR | .ROL | .ROR => [.ACC, .ZP, .ZPX, .ABS, .ABSX]
  | .JMP => [.ABS, .IND]
  | .JSR => [.ABS]
  | .BCC | .BCS | .BEQ | .BNE | .BMI | .BPL | .BVC | .BVS => [.REL]
  | .TAX | .TAY | .TXA | .TYA | .TSX | .TXS | .INX | .INY | .DEX | .DEY | .RTS | .PHA | .PLA | .PHP | .PLP
  | .CLC | .SEC | .CLI | .SEI | .CLD | .SED | .CLV | .NOP | .BRK | .RTI => [.IMP]

/-- An assembler triple names an instruction when its mnemonic has its mode and its operand fits the operand bytes. -/
def Asm.wellFormed (a : Asm) : Bool :=
  a.mnemonic.modes.contains a.mode && decide (a.operand < 256 ^ a.mode.operandBytes)

/-- The well-formedness of an instruction is that of its triple. -/
def Instr.wellFormed (i : Instr) : Bool := i.asm.wellFormed

/-- The base cycle count of a mnemonic in a mode: the table of rule R123. Only its cells for instructions that
exist have a meaning. -/
def baseCycles : Mnemonic → Mode → Nat
  | .LDA, .IMM | .ADC, .IMM | .SBC, .IMM | .AND, .IMM | .ORA, .IMM | .EOR, .IMM | .CMP, .IMM => 2
  | .LDX, .IMM | .LDY, .IMM | .CPX, .IMM | .CPY, .IMM => 2
  | .ASL, m | .LSR, m | .ROL, m | .ROR, m | .INC, m | .DEC, m =>
    match m with
    | .ACC => 2 | .ZP => 5 | .ZPX => 6 | .ABS => 6 | .ABSX => 7 | _ => 0
  | .STA, m =>
    match m with
    | .ZP => 3 | .ZPX => 4 | .ABS => 4 | .ABSX => 5 | .ABSY => 5 | .IZX => 6 | .IZY => 6 | _ => 0
  | .JMP, .ABS => 3
  | .JMP, .IND => 5
  | .JSR, _ => 6
  | .RTS, _ | .RTI, _ => 6
  | .BRK, _ => 7
  | .PHA, _ | .PHP, _ => 3
  | .PLA, _ | .PLP, _ => 4
  | _, .ZP => 3
  | _, .ZPX | _, .ZPY | _, .ABS | _, .ABSX | _, .ABSY => 4
  | _, .IZX => 6
  | _, .IZY => 5
  | _, .IMP => 2
  | _, .REL => 2
  | _, _ => 0

/-- Whether the cell of rule R123 carries a `+`: one cycle more when the page is crossed (R124 a). -/
def pagePenalty : Mnemonic → Mode → Bool
  | .LDA, m | .LDX, m | .LDY, m | .ADC, m | .SBC, m | .AND, m | .ORA, m | .EOR, m | .CMP, m =>
    m == .ABSX || m == .ABSY || m == .IZY
  | _, _ => false

end Sys2Proof
end

