-- ==== Sys2Proof/Safety.lean ====
section
/-! DEFINITION. The terms claims are stated in: the invariant of the machine, the addressing modes as one function of
the mode (spec/30_encoding.md R117), and what an instruction costs (R123, R124). Nothing here is used by the machine. -/

namespace Sys2Proof.Machine

/-! ## The invariant -/

/-- The keys bus storage may have: internal RAM and plain storage (spec/10_state.md R38). -/
def storageKey (a : Nat) : Bool := decide (a < 0x0800) || (decide (0x4020 ≤ a) && decide (a < 0x8000))

/-- What holds of every state between steps. -/
structure State.Inv (s : State) : Prop where
  /-- Bus storage is in canonical form, at addresses that exist (R38). -/
  memWf : s.mem.wf = true
  memKeys : s.mem.keysIn storageKey = true
  /-- The nametables are in canonical form, 1024 bytes each (R39). -/
  nt0Wf : s.nt0.wf = true
  nt0Keys : s.nt0.keysIn (fun a => decide (a < 1024)) = true
  nt1Wf : s.nt1.wf = true
  nt1Keys : s.nt1.keysIn (fun a => decide (a < 1024)) = true
  /-- The cartridge has a PRG bank, and its arrays have the length the header gives (R41, R281). -/
  prgBank : 1 ≤ s.cart.prg16
  prgWf : s.cart.prg.wf = true
  prgKeys : s.cart.prg.keysIn (fun a => decide (a < s.cart.prgLength)) = true
  chrWf : s.chr.wf = true
  chrKeys : s.chr.keysIn (fun a => decide (a < s.cart.chrLength)) = true
  /-- The read counters are in 0 to 23 (R40). -/
  rd0 : s.pads.rd0 < 24
  rd1 : s.pads.rd1 < 24
  /-- The stored Break flag is 0 in every reachable state (R29). -/
  breakClear : s.cpu.f.b = false
  /-- The MMC1 buffer holds 0 to 4 bits (spec/60_exceptions.md R292). -/
  mmc1Count : ∀ r, s.mapper = .mmc1 r → r.count ≤ 4
  /-- Between steps fewer than 114 cycles are outstanding, or the run has ended (R275, R276). -/
  accBound : s.sched.acc < 114 ∨ (s.sched.atTop = true ∧ s.sched.stop = true)
  /-- No register access of an earlier step is outstanding. -/
  untouched : s.dev.ppuTouched = false
  noOam : s.dev.oamPage = none

/-- A RAM_INIT whose stores are in canonical form and hold nothing outside their arrays. -/
structure RamInit.Wf (r : RamInit) : Prop where
  memWf : r.mem.wf = true
  memKeys : r.mem.keysIn storageKey = true
  nt0Wf : r.nt0.wf = true
  nt0Keys : r.nt0.keysIn (fun a => decide (a < 1024)) = true
  nt1Wf : r.nt1.wf = true
  nt1Keys : r.nt1.keysIn (fun a => decide (a < 1024)) = true
  chrWf : r.chrRam.wf = true
  chrKeys : r.chrRam.keysIn (fun a => decide (a < 8192)) = true

/-! ## Operands by mode -/

/-- `resolve(mode)` of an operand (R103 to R117), on the state the fetch leaves. IMP, ACC and IMM make no access of
their own after the fetch: their answer is not used. -/
def resolveMode (mode : Mode) (operand : Nat) (s : State) : Ea :=
  match mode with
  | .IMP | .ACC | .IMM => ⟨s.cpu.pc, false, s⟩
  | .ZP => eaZp (BitVec.ofNat 8 operand) s
  | .ZPX => eaZpx (BitVec.ofNat 8 operand) s
  | .ZPY => eaZpy (BitVec.ofNat 8 operand) s
  | .ABS => eaAbs (BitVec.ofNat 16 operand) s
  | .ABSX => eaAbsx (BitVec.ofNat 16 operand) s
  | .ABSY => eaAbsy (BitVec.ofNat 16 operand) s
  | .IND => eaInd (BitVec.ofNat 16 operand) s
  | .IZX => eaIzx (BitVec.ofNat 8 operand) s
  | .IZY => eaIzy (BitVec.ofNat 8 operand) s
  | .REL => ⟨relTarget (BitVec.ofNat 8 operand) s, false, s⟩

/-- The effective address of an instruction, with the state its pointer reads leave. -/
def ea (i : Instr) (s : State) : Ea := resolveMode i.mode i.operand s

/-- The data byte an instruction reads and the state the read leaves: the immediate byte, or one bus read at the
effective address. -/
def dataRead (i : Instr) (s : State) : Byte × State :=
  if i.mode = .IMM then (BitVec.ofNat 8 i.operand, s) else (ea i s).st.busRead (ea i s).addr

/-! ## Cycles -/

/-- The condition of a branch (R205 to R212); false for every other instruction. -/
def branchTaken (i : Instr) (f : Flags) : Bool :=
  match i.mnemonic with
  | .BPL => !f.n
  | .BMI => f.n
  | .BVC => !f.v
  | .BVS => f.v
  | .BCC => !f.c
  | .BCS => f.c
  | .BNE => !f.z
  | .BEQ => f.z
  | _ => false

/-- What a step of an instruction costs, less an OAM-DMA stall (R123, R124 a and b, R203): its base count, one more on
a page cross for an opcode marked `+`, one more for a branch taken and one more when it goes to another page. -/
def cycleCost (i : Instr) (s : State) : Nat :=
  baseCycles i.mnemonic i.mode
    + (if pagePenalty i.mnemonic i.mode && (ea i s).crossed then 1 else 0)
    + (if branchTaken i s.cpu.f then (if highByte (ea i s).addr = highByte s.cpu.pc then 1 else 2) else 0)

/-- The mnemonics whose memory forms write the effective address (R32, R140, R170, R171, R190). -/
def writesMemory : Mnemonic → Bool
  | .STA | .STX | .STY | .INC | .DEC | .ASL | .LSR | .ROL | .ROR => true
  | _ => false

/-- The instructions that write the byte at their effective address: stores and read-modify-write forms. -/
def storesAtEa (i : Instr) : Bool := writesMemory i.mnemonic && (i.mode != .ACC)

/-- What a step adds for a write of 0x4014 (R60, R124 c). -/
def oamStall (a : Addr) : Nat := if a = 0x4014#16 then Config.oamDmaStall else 0

/-! ## The encoding line of an instruction's rule -/

/-- One entry of the "Encoding" line of a rule: opcode byte, mode, base cycles, and whether it is marked `+`. -/
structure EncForm where
  op : Byte
  mode : Mode
  cycles : Nat
  plus : Bool

/-- A mnemonic has exactly these forms: each of its instructions has the opcode, mode, base cycles and `+` mark of an
entry, and each entry is the first byte of one of its instructions. -/
def HasForms (m : Mnemonic) (forms : List EncForm) : Prop :=
  (∀ i : Instr, i.mnemonic = m → ∃ e ∈ forms, (encode i).head? = some e.op ∧ i.mode = e.mode ∧
    baseCycles i.mnemonic i.mode = e.cycles ∧ pagePenalty i.mnemonic i.mode = e.plus) ∧
  ∀ e ∈ forms, ∃ i : Instr, i.mnemonic = m ∧ (encode i).head? = some e.op

/-- The 105 opcode bytes without a meaning, as rule R120 lists them. -/
def undefinedOpcodes : List Byte :=
  [0x02#8, 0x03#8, 0x04#8, 0x07#8, 0x0B#8, 0x0C#8, 0x0F#8, 0x12#8, 0x13#8, 0x14#8, 0x17#8, 0x1A#8, 0x1B#8, 0x1C#8,
    0x1F#8, 0x22#8, 0x23#8, 0x27#8, 0x2B#8, 0x2F#8, 0x32#8, 0x33#8, 0x34#8, 0x37#8, 0x3A#8, 0x3B#8, 0x3C#8, 0x3F#8]
  ++ [0x42#8, 0x43#8, 0x44#8, 0x47#8, 0x4B#8, 0x4F#8, 0x52#8, 0x53#8, 0x54#8, 0x57#8, 0x5A#8, 0x5B#8, 0x5C#8, 0x5F#8,
    0x62#8, 0x63#8, 0x64#8, 0x67#8, 0x6B#8, 0x6F#8, 0x72#8, 0x73#8, 0x74#8, 0x77#8, 0x7A#8, 0x7B#8, 0x7C#8, 0x7F#8]
  ++ [0x80#8, 0x82#8, 0x83#8, 0x87#8, 0x89#8, 0x8B#8, 0x8F#8, 0x92#8, 0x93#8, 0x97#8, 0x9B#8, 0x9C#8, 0x9E#8, 0x9F#8,
    0xA3#8, 0xA7#8, 0xAB#8, 0xAF#8, 0xB2#8, 0xB3#8, 0xB7#8, 0xBB#8, 0xBF#8]
  ++ [0xC2#8, 0xC3#8, 0xC7#8, 0xCB#8, 0xCF#8, 0xD2#8, 0xD3#8, 0xD4#8, 0xD7#8, 0xDA#8, 0xDB#8, 0xDC#8, 0xDF#8,
    0xE2#8, 0xE3#8, 0xE7#8, 0xEB#8, 0xEF#8, 0xF2#8, 0xF3#8, 0xF4#8, 0xF7#8, 0xFA#8, 0xFB#8, 0xFC#8, 0xFF#8]

/-- How many bytes an instruction pushes. -/
def pushCount (i : Instr) : Nat :=
  match i.mnemonic with
  | .PHA | .PHP => 1
  | .JSR => 2
  | .BRK => 3
  | _ => 0

/-! ## Forms of the spec's own formulas -/

/-- `bank(arr, sz, b, off)` of rule R282, as the index into an array of length `len`. -/
def bankView (len sz b off : Nat) : Nat := ((b % max 1 (len / sz)) * sz + off) % len

/-- A conditional branch as rule R203 writes it: the target is the address of the next instruction plus the offset read
as a number of -128 to 127; 2 cycles, 3 when taken, 4 when taken to another page. -/
def branchEffect (taken : Bool) (o : Byte) (s : State) : State :=
  let target : Addr := BitVec.ofInt 16 ((s.cpu.pc.toNat : Int) + (if o.toNat < 0x80 then (o.toNat : Int) else o.toNat - 256))
  if taken then
    { s with
      cpu := { s.cpu with pc := target }
      sched := { s.sched with acc := s.sched.acc + (if target.toNat / 256 = s.cpu.pc.toNat / 256 then 3 else 4) } }
  else { s with sched := { s.sched with acc := s.sched.acc + 2 } }

/-- The state after bytes have been pushed, the first one first: each at `0x0100 + S`, `S` going down modulo 256
(R24). -/
def afterPushes : List Byte → State → State
  | [], s => s
  | v :: vs, s =>
    afterPushes vs
      { s with mem := s.mem.write (0x0100 + s.cpu.sp.toNat) v, cpu := { s.cpu with sp := s.cpu.sp - 1#8 } }

/-- The byte the `k`-th pull from here answers (`k` from 1): at `0x0100 + S + k`, `S + k` taken modulo 256 (R24). -/
def pulledByte (k : Nat) (s : State) : Byte := s.mem.read (0x0100 + (s.cpu.sp.toNat + k) % 256)

/-- The two PRG bytes a vector shows, low byte first (R70, R74). -/
def vectorAt (a : Addr) (s : State) : Addr :=
  joinBytes (mapperRead s.cart s.mapper (a + 1#16)) (mapperRead s.cart s.mapper a)

end Sys2Proof.Machine
end

