-- ==== Sys2Proof/Certificates/Slice0/Obligations.lean ====
section
/-! DEFINITION. What is claimed of the machine: one statement for each entry of OBLIGATIONS.json, from the numbered rules
of spec/. A meaning runs on the state the fetch leaves, so `s.cpu.pc` in a statement about `exec` is the address of the
byte after the instruction (R25); an instruction's cycles are added to the scheduler's accumulator (R275). -/

open Sys2Proof Sys2Proof.Machine

/-! ## Encoding -/

/-- Words written out from the matrix of R119 and the formats of R101 decode to the instructions they stand for. -/
def Obligations.SpecWordsDecode : Prop :=
  decode [0b10101001#8, 0x80#8] = .ok (.ldaImm 0x80#8, []) ∧
  decode [0b10011101#8, 0x34#8, 0x12#8] = .ok (.staAbsx 0x1234#16, []) ∧
  decode [0b01110001#8, 0x20#8] = .ok (.adcIzy 0x20#8, []) ∧
  decode [0b01101010#8] = .ok (.rorAcc, []) ∧
  decode [0b01101100#8, 0xFF#8, 0x02#8] = .ok (.jmpInd 0x02FF#16, []) ∧
  decode [0b11010000#8, 0xFB#8] = .ok (.bne 0xFB#8, []) ∧
  decode [0b00000000#8, 0xEA#8] = .ok (.brk, [0xEA#8])

/-- No bit of an encoding is dropped: decoding an instruction's bytes, with any bytes after them, gives the instruction
and those bytes back; and the length is the one its mode fixes (R101, R119, R122). -/
def Obligations.DecodeOfEncode : Prop :=
  ∀ (i : Instr) (rest : List Byte),
    decode (encode i ++ rest) = .ok (i, rest) ∧ (encode i).length = i.mode.length

/-- What decodes is exactly what the encoder writes: no second spelling of an instruction (R101, R119). -/
def Obligations.EncodeOfDecode : Prop :=
  ∀ (bs rest : List Byte) (i : Instr), decode bs = .ok (i, rest) → bs = encode i ++ rest

/-- R127: each opcode byte is a row of the matrix or one of the 105 undefined values, never both; and every value of
every operand byte is legal. -/
def Obligations.EveryOpcodeByteIsDefinedOrListed : Prop :=
  undefinedOpcodes.length = 105 ∧ undefinedOpcodes.Nodup ∧
  ∀ op : Byte,
    (op ∈ undefinedOpcodes ∧ ∀ rest : List Byte, decode (op :: rest) = .error (.undefinedOpcode op)) ∨
    (op ∉ undefinedOpcodes ∧
      ∀ (b1 b2 : Byte) (rest : List Byte), ∃ (i : Instr) (left : List Byte),
        decode (op :: b1 :: b2 :: rest) = .ok (i, left) ∧ (encode i).head? = some op)

/-- R120: a processor step that takes no interrupt and fetches one of the 105 bytes is refused by name, whatever the byte's
address. -/
def Obligations.UndefinedOpcodeIsRefused : Prop :=
  ∀ s : State, s.pend.reset = false → s.pend.nmi = false → (s.pend.irq = false ∨ s.cpu.f.i = true) →
    (s.busRead s.cpu.pc).1 ∈ undefinedOpcodes →
    cpuStep s = .refused (.undefinedOpcode (s.busRead s.cpu.pc).1)

/-! ## Power-on, reset and the invariant -/

/-- R44 and R255: the power-on column of the table of reset values, with the cartridge and a CHR-ROM as loaded (R41) and the
mapper registers at their load-time values (the table of R312, which the spec marks as its own choice), and the
serviced-Reset column: a serviced Reset clears its own mark and changes the processor's registers, for 7 cycles, and nothing
else. That the record of what the picture and audio units have seen is part of what it leaves is the model's choice (log 20),
since R353 leaves open whether they see a Reset. -/
def Obligations.PowerOnAndServicedReset : Prop :=
  (∀ (im : Image) (ram : RamInit) (p : Params) (env : Env),
    let s := State.powerOn im ram p env
    s.cpu =
        { a := 0x00#8, x := 0x00#8, y := 0x00#8, sp := 0xFD#8, pc := vectorAt 0xFFFC#16 s
          f := { c := false, z := false, i := true, d := false, b := false, v := false, n := false } } ∧
      s.cpu.f.pack = 0x24#8 ∧
      s.pend = { reset := false, nmi := false, irq := false } ∧
      s.cart = im.cart ∧ (im.cart.chr8 ≠ 0 → s.chr = im.chrRom) ∧
      s.mem = ram.mem ∧ s.nt0 = ram.nt0 ∧ s.nt1 = ram.nt1 ∧ (im.cart.chr8 = 0 → s.chr = ram.chrRam) ∧
      s.mirror = (if im.cart.vertical then .vertical else .horizontal) ∧
      s.mapper =
        (match im.variant with
          | .nrom => .nrom
          | .unrom => .unrom 0#8
          | .cnrom => .cnrom 0#8
          | .axrom => .axrom 0#8
          | .mmc1 => .mmc1 ⟨0#5, 0, 0x0C#5, 0#5, 0#5, 0#5⟩
          | .mmc2 =>
            .mmc2
              ⟨0#4, 0#5, 0#5, 0#5, 0#5, if p.mmc2LatchInitFE then .fe else .fd, if p.mmc2LatchInitFE then .fe else .fd⟩
          | .mmc3 => .mmc3 ⟨0#8, 0#8, 2#8, 4#8, 5#8, 6#8, 7#8, 0#8, 1#8, 0#8, 0#8, false, false⟩
          | .mmc5 => .mmc5) ∧
      s.pads = { buttons := 0#16, strobe := false, rd0 := 0, rd1 := 0 } ∧
      s.sched.acc = 0 ∧ s.sched.stop = false) ∧
  (∀ s : State,
    s.enterInterrupt .reset =
      { s with
        cpu :=
          { a := 0x00#8, x := 0x00#8, y := 0x00#8, sp := 0xFD#8, pc := vectorAt 0xFFFC#16 s
            f := { c := false, z := false, i := true, d := false, b := false, v := false, n := false } }
        sched := { s.sched with acc := s.sched.acc + 7 } }) ∧
  (∀ s : State, s.pend.reset = true →
    cpuStep s =
      .next
        { s with
          cpu :=
            { a := 0x00#8, x := 0x00#8, y := 0x00#8, sp := 0xFD#8, pc := vectorAt 0xFFFC#16 s
              f := { c := false, z := false, i := true, d := false, b := false, v := false, n := false } }
          pend := { s.pend with reset := false }
          sched := { s.sched with acc := s.sched.acc + 7 } })

/-- The invariant holds of the state right after reset. The blank cartridge and the empty RAM_INIT of that state are the
model's choices (log 1, log 2). -/
def Obligations.ResetSatisfiesInvariant : Prop := State.reset.Inv

/-- The invariant holds of every machine powered on with an image the loader admits and a RAM_INIT in canonical form. -/
def Obligations.PowerOnSatisfiesInvariant : Prop :=
  ∀ (image : List Byte) (im : Image) (ram : RamInit) (p : Params) (env : Env),
    loadImage image = .ok im → ram.Wf → (State.powerOn im ram p env).Inv

/-- Every step keeps the invariant: canonical stores at addresses that exist, the Break flag stored as 0, the read
counters and the MMC1 buffer in range, fewer than 114 cycles outstanding, no device access outstanding. -/
def Obligations.StepKeepsInvariant : Prop :=
  ∀ s t : State, s.Inv → step s = .next t → t.Inv

/-- R280 and R281: the fields of a cartridge image, from its bytes; an image loads exactly when its magic bytes, mapper
number, PRG count and length allow it; and what is derived from one that loads. -/
def Obligations.LoaderReadsAndChecksTheImage : Prop :=
  (∀ (image : List Byte) (im : Image), loadImage image = .ok im →
    let byte (k : Nat) : Nat := (image.getD k 0#8).toNat
    image.take 4 = [0x4E#8, 0x45#8, 0x53#8, 0x1A#8] ∧
    im.cart.prg16 = byte 4 ∧ im.cart.chr8 = byte 5 ∧
    im.cart.vertical = decide (byte 6 % 2 = 1) ∧ im.cart.battery = decide (byte 6 / 2 % 2 = 1) ∧
    variantOf (byte 6 / 16 + 16 * (byte 7 / 16)) = some im.variant ∧
    (∀ k, k < 16384 * byte 4 → im.cart.prg.read k = image.getD (16 + k) 0#8) ∧
    (∀ k, k < 8192 * byte 5 → im.chrRom.read k = image.getD (16 + 16384 * byte 4 + k) 0#8)) ∧
  (∀ image : List Byte,
    let byte (k : Nat) : Nat := (image.getD k 0#8).toNat
    (∃ im, loadImage image = .ok im) ↔
      image.take 4 = [0x4E#8, 0x45#8, 0x53#8, 0x1A#8] ∧
      (byte 6 / 16 + 16 * (byte 7 / 16)) ∈ [0, 1, 2, 3, 4, 5, 7, 9] ∧
      byte 4 ≠ 0 ∧ 16 + 16384 * byte 4 + 8192 * byte 5 ≤ image.length) ∧
  [0, 1, 2, 3, 4, 5, 7, 9].map variantOf =
    [some .nrom, some .mmc1, some .unrom, some .cnrom, some .mmc3, some .mmc5, some .axrom, some .mmc2] ∧
  ∀ (image : List Byte) (im : Image) (ram : RamInit) (p : Params) (env : Env), loadImage image = .ok im →
    (State.powerOn im ram p env).mirror = (if (image.getD 6 0#8).getLsbD 0 then .vertical else .horizontal) ∧
    (State.powerOn im ram p env).batteryBacked = (image.getD 6 0#8).getLsbD 1 ∧
    (State.powerOn im ram p env).mapper.variant = im.variant

/-- R41 and R42: nothing changes the cartridge. Over a step the header fields and PRG-ROM, the parameters and the choice
of mapper variant stay, and CHR stays where it is a ROM. -/
def Obligations.StepKeepsTheCartridge : Prop :=
  ∀ s t : State, step s = .next t →
    t.cart = s.cart ∧ t.params = s.params ∧ t.mapper.variant = s.mapper.variant ∧ (s.cart.chr8 ≠ 0 → t.chr = s.chr)

/-! ## Flags and arithmetic -/

/-- R27 and R28: where each flag stands in the status byte, that bit 5 reads as 1, and that loading the byte takes the six
flags from it and discards bit 5; after reset it reads 0x24. -/
def Obligations.StatusByteLayout : Prop :=
  State.reset.cpu.f.pack = 0x24#8 ∧
  ∀ f : Flags,
    f.pack.toNat =
        (if f.n then 128 else 0) + (if f.v then 64 else 0) + 32 + (if f.b then 16 else 0) + (if f.d then 8 else 0) +
          (if f.i then 4 else 0) + (if f.z then 2 else 0) + (if f.c then 1 else 0) ∧
    f.pack.getLsbD 5 = true ∧
    (∀ v : Byte, Flags.setStatus (v ^^^ 0x20#8) f = Flags.setStatus v f) ∧ Flags.setStatus f.pack f = f

/-- R176: SBC with operand `m` gives the registers, flags and cycles of ADC with operand `m ^ 0xFF`. -/
def Obligations.SubtractionIsAdditionOfTheComplement : Prop :=
  (∀ (a m : Byte) (c : Bool), subtractWithBorrow a m c = addWithCarry a (m ^^^ 0xFF#8) c) ∧
  ∀ (m : Byte) (s : State), exec (.sbcImm m) s = exec (.adcImm (m ^^^ 0xFF#8)) s

/-- C reports the unsigned outcome and V the signed outcome of ADC and SBC (R160): C is the carry out of, or the absence
of a borrow from, the natural numbers, and V says that the exact signed result does not fit 8 bits. -/
def Obligations.CarryIsUnsignedAndOverflowIsSigned : Prop :=
  ∀ (a m : Byte) (c : Bool),
    let k : Int := if c then 1 else 0
    let sum := addWithCarry a m c
    let diff := subtractWithBorrow a m c
    (sum.c = decide ((a.toNat : Int) + m.toNat + k > 255)) ∧
    (sum.v = decide (a.toInt + m.toInt + k < -128 ∨ 127 < a.toInt + m.toInt + k)) ∧
    (sum.v = false → sum.r.toInt = a.toInt + m.toInt + k) ∧
    (diff.c = decide ((a.toNat : Int) - m.toNat - (1 - k) ≥ 0)) ∧
    (diff.v = decide (a.toInt - m.toInt - (1 - k) < -128 ∨ 127 < a.toInt - m.toInt - (1 - k))) ∧
    (diff.v = false → diff.r.toInt = a.toInt - m.toInt - (1 - k))

/-- The Decimal flag changes no result (R30, R160): an ADC or SBC on a state with D written does what it does on the state
as it was, with D written in the result. -/
def Obligations.DecimalFlagChangesNoArithmetic : Prop :=
  ∀ (i : Instr) (s : State) (d : Bool), i.mnemonic = .ADC ∨ i.mnemonic = .SBC →
    ∃ t, exec i s = .next t ∧
      exec i (s.mapFlags fun f => { f with d := d }) = .next (t.mapFlags fun f => { f with d := d })

/-! ## Operands -/

/-- R106 to R111, R114 and R115: the effective address of every form that reads or writes memory through one of these modes,
whether a page is crossed, and that finding it changes nothing. -/
def Obligations.EffectiveAddresses : Prop :=
  ∀ (i : Instr) (s : State),
    (i.mode = .ZP → (ea i s).addr.toNat = i.operand ∧ (ea i s).crossed = false) ∧
    (i.mode = .ZPX → (ea i s).addr.toNat = (i.operand + s.cpu.x.toNat) % 256 ∧ (ea i s).crossed = false) ∧
    (i.mode = .ZPY → (ea i s).addr.toNat = (i.operand + s.cpu.y.toNat) % 256 ∧ (ea i s).crossed = false) ∧
    (i.mode = .ABS → (ea i s).addr.toNat = i.operand ∧ (ea i s).crossed = false) ∧
    (i.mode = .ABSX →
      (ea i s).addr.toNat = (i.operand + s.cpu.x.toNat) % 65536 ∧
      (ea i s).crossed = decide (i.operand % 256 + s.cpu.x.toNat > 0xFF)) ∧
    (i.mode = .ABSY →
      (ea i s).addr.toNat = (i.operand + s.cpu.y.toNat) % 65536 ∧
      (ea i s).crossed = decide (i.operand % 256 + s.cpu.y.toNat > 0xFF)) ∧
    (i.mode = .IZX →
      let p := (i.operand + s.cpu.x.toNat) % 256
      (ea i s).addr.toNat = (s.mem.read ((p + 1) % 256)).toNat * 256 + (s.mem.read p).toNat ∧ (ea i s).crossed = false) ∧
    (i.mode = .IZY →
      let lo := (s.mem.read i.operand).toNat
      let base := (s.mem.read ((i.operand + 1) % 256)).toNat * 256 + lo
      (ea i s).addr.toNat = (base + s.cpu.y.toNat) % 65536 ∧
      (ea i s).crossed = decide (lo + s.cpu.y.toNat > 0xFF)) ∧
    (i.mode ≠ .IND → (ea i s).st = s)

/-! ## Loads, stores and transfers -/

/-- R141, R142 and R143: LDA, LDX and LDY in every mode. -/
def Obligations.LoadsWriteTheRegister : Prop :=
  HasForms .LDA
    [⟨0xA9#8, .IMM, 2, false⟩, ⟨0xA5#8, .ZP, 3, false⟩, ⟨0xB5#8, .ZPX, 4, false⟩, ⟨0xAD#8, .ABS, 4, false⟩,
      ⟨0xBD#8, .ABSX, 4, true⟩, ⟨0xB9#8, .ABSY, 4, true⟩, ⟨0xA1#8, .IZX, 6, false⟩, ⟨0xB1#8, .IZY, 5, true⟩] ∧
  HasForms .LDX
    [⟨0xA2#8, .IMM, 2, false⟩, ⟨0xA6#8, .ZP, 3, false⟩, ⟨0xB6#8, .ZPY, 4, false⟩, ⟨0xAE#8, .ABS, 4, false⟩,
      ⟨0xBE#8, .ABSY, 4, true⟩] ∧
  HasForms .LDY
    [⟨0xA0#8, .IMM, 2, false⟩, ⟨0xA4#8, .ZP, 3, false⟩, ⟨0xB4#8, .ZPX, 4, false⟩, ⟨0xAC#8, .ABS, 4, false⟩,
      ⟨0xBC#8, .ABSX, 4, true⟩] ∧
  ∀ (i : Instr) (s : State),
    let m := (dataRead i s).1
    let f : Flags := { s.cpu.f with z := decide (m = 0x00#8), n := m.getLsbD 7 }
    let after (c : Cpu) : State :=
      { (dataRead i s).2 with cpu := c, sched := { s.sched with acc := s.sched.acc + cycleCost i s } }
    (i.mnemonic = .LDA → exec i s = .next (after { s.cpu with a := m, f := f })) ∧
    (i.mnemonic = .LDX → exec i s = .next (after { s.cpu with x := m, f := f })) ∧
    (i.mnemonic = .LDY → exec i s = .next (after { s.cpu with y := m, f := f }))

/-- R144, R145 and R146: STA, STX and STY in every mode: one bus write of the register at the effective address, and no
register or flag changes. -/
def Obligations.StoresWriteTheAddress : Prop :=
  HasForms .STA
    [⟨0x85#8, .ZP, 3, false⟩, ⟨0x95#8, .ZPX, 4, false⟩, ⟨0x8D#8, .ABS, 4, false⟩, ⟨0x9D#8, .ABSX, 5, false⟩,
      ⟨0x99#8, .ABSY, 5, false⟩, ⟨0x81#8, .IZX, 6, false⟩, ⟨0x91#8, .IZY, 6, false⟩] ∧
  HasForms .STX [⟨0x86#8, .ZP, 3, false⟩, ⟨0x96#8, .ZPY, 4, false⟩, ⟨0x8E#8, .ABS, 4, false⟩] ∧
  HasForms .STY [⟨0x84#8, .ZP, 3, false⟩, ⟨0x94#8, .ZPX, 4, false⟩, ⟨0x8C#8, .ABS, 4, false⟩] ∧
  ∀ (i : Instr) (s : State),
    let stored (v : Byte) : State := s.busWrite (ea i s).addr v
    let after (v : Byte) : State :=
      { stored v with
        cpu := s.cpu, sched := { s.sched with acc := s.sched.acc + cycleCost i s + oamStall (ea i s).addr } }
    (i.mnemonic = .STA → exec i s = .next (after s.cpu.a)) ∧
    (i.mnemonic = .STX → exec i s = .next (after s.cpu.x)) ∧
    (i.mnemonic = .STY → exec i s = .next (after s.cpu.y))

/-- R147 to R152: the six transfers. -/
def Obligations.TransfersCopyARegister : Prop :=
  HasForms .TAX [⟨0xAA#8, .IMP, 2, false⟩] ∧ HasForms .TAY [⟨0xA8#8, .IMP, 2, false⟩] ∧
  HasForms .TXA [⟨0x8A#8, .IMP, 2, false⟩] ∧ HasForms .TYA [⟨0x98#8, .IMP, 2, false⟩] ∧
  HasForms .TSX [⟨0xBA#8, .IMP, 2, false⟩] ∧ HasForms .TXS [⟨0x9A#8, .IMP, 2, false⟩] ∧
  ∀ s : State,
    let f (m : Byte) : Flags := { s.cpu.f with z := decide (m = 0x00#8), n := m.getLsbD 7 }
    let after (c : Cpu) : State := { s with cpu := c, sched := { s.sched with acc := s.sched.acc + 2 } }
    exec .tax s = .next (after { s.cpu with x := s.cpu.a, f := f s.cpu.a }) ∧
    exec .tay s = .next (after { s.cpu with y := s.cpu.a, f := f s.cpu.a }) ∧
    exec .txa s = .next (after { s.cpu with a := s.cpu.x, f := f s.cpu.x }) ∧
    exec .tya s = .next (after { s.cpu with a := s.cpu.y, f := f s.cpu.y }) ∧
    exec .tsx s = .next (after { s.cpu with x := s.cpu.sp, f := f s.cpu.sp }) ∧
    exec .txs s = .next (after { s.cpu with sp := s.cpu.x })

/-! ## Arithmetic, logic, compare, bit test, increment and decrement -/

/-- R161: ADC in every mode. -/
def Obligations.AdcAddsWithCarry : Prop :=
  HasForms .ADC
    [⟨0x69#8, .IMM, 2, false⟩, ⟨0x65#8, .ZP, 3, false⟩, ⟨0x75#8, .ZPX, 4, false⟩, ⟨0x6D#8, .ABS, 4, false⟩,
      ⟨0x7D#8, .ABSX, 4, true⟩, ⟨0x79#8, .ABSY, 4, true⟩, ⟨0x61#8, .IZX, 6, false⟩, ⟨0x71#8, .IZY, 5, true⟩] ∧
  ∀ (i : Instr) (s : State), i.mnemonic = .ADC →
    let a := s.cpu.a
    let m := (dataRead i s).1
    let sum := a.toNat + m.toNat + (if s.cpu.f.c then 1 else 0)
    let r : Byte := BitVec.ofNat 8 (sum % 256)
    exec i s =
      .next
        { (dataRead i s).2 with
          cpu :=
            { s.cpu with
              a := r
              f :=
                { s.cpu.f with
                  c := decide (sum > 0xFF)
                  v := decide (a.getLsbD 7 = m.getLsbD 7 ∧ r.getLsbD 7 ≠ a.getLsbD 7)
                  z := decide (r = 0x00#8)
                  n := r.getLsbD 7 } }
          sched := { s.sched with acc := s.sched.acc + cycleCost i s } }

/-- R162: SBC in every mode. -/
def Obligations.SbcSubtractsWithBorrow : Prop :=
  HasForms .SBC
    [⟨0xE9#8, .IMM, 2, false⟩, ⟨0xE5#8, .ZP, 3, false⟩, ⟨0xF5#8, .ZPX, 4, false⟩, ⟨0xED#8, .ABS, 4, false⟩,
      ⟨0xFD#8, .ABSX, 4, true⟩, ⟨0xF9#8, .ABSY, 4, true⟩, ⟨0xE1#8, .IZX, 6, false⟩, ⟨0xF1#8, .IZY, 5, true⟩] ∧
  ∀ (i : Instr) (s : State), i.mnemonic = .SBC →
    let a := s.cpu.a
    let m := (dataRead i s).1
    let diff : Int := (a.toNat : Int) - m.toNat - (1 - (if s.cpu.f.c then 1 else 0))
    let r : Byte := BitVec.ofNat 8 (diff % 256).toNat
    exec i s =
      .next
        { (dataRead i s).2 with
          cpu :=
            { s.cpu with
              a := r
              f :=
                { s.cpu.f with
                  c := decide (diff ≥ 0)
                  v := decide (a.getLsbD 7 ≠ m.getLsbD 7 ∧ r.getLsbD 7 ≠ a.getLsbD 7)
                  z := decide (r = 0x00#8)
                  n := r.getLsbD 7 } }
          sched := { s.sched with acc := s.sched.acc + cycleCost i s } }

/-- R163, R164 and R165: AND, ORA and EOR in every mode. -/
def Obligations.LogicCombinesWithTheAccumulator : Prop :=
  HasForms .AND
    [⟨0x29#8, .IMM, 2, false⟩, ⟨0x25#8, .ZP, 3, false⟩, ⟨0x35#8, .ZPX, 4, false⟩, ⟨0x2D#8, .ABS, 4, false⟩,
      ⟨0x3D#8, .ABSX, 4, true⟩, ⟨0x39#8, .ABSY, 4, true⟩, ⟨0x21#8, .IZX, 6, false⟩, ⟨0x31#8, .IZY, 5, true⟩] ∧
  HasForms .ORA
    [⟨0x09#8, .IMM, 2, false⟩, ⟨0x05#8, .ZP, 3, false⟩, ⟨0x15#8, .ZPX, 4, false⟩, ⟨0x0D#8, .ABS, 4, false⟩,
      ⟨0x1D#8, .ABSX, 4, true⟩, ⟨0x19#8, .ABSY, 4, true⟩, ⟨0x01#8, .IZX, 6, false⟩, ⟨0x11#8, .IZY, 5, true⟩] ∧
  HasForms .EOR
    [⟨0x49#8, .IMM, 2, false⟩, ⟨0x45#8, .ZP, 3, false⟩, ⟨0x55#8, .ZPX, 4, false⟩, ⟨0x4D#8, .ABS, 4, false⟩,
      ⟨0x5D#8, .ABSX, 4, true⟩, ⟨0x59#8, .ABSY, 4, true⟩, ⟨0x41#8, .IZX, 6, false⟩, ⟨0x51#8, .IZY, 5, true⟩] ∧
  ∀ (i : Instr) (s : State),
    let a := s.cpu.a
    let m := (dataRead i s).1
    let after (r : Byte) : State :=
      { (dataRead i s).2 with
        cpu := { s.cpu with a := r, f := { s.cpu.f with z := decide (r = 0x00#8), n := r.getLsbD 7 } }
        sched := { s.sched with acc := s.sched.acc + cycleCost i s } }
    (i.mnemonic = .AND → exec i s = .next (after (a &&& m))) ∧
    (i.mnemonic = .ORA → exec i s = .next (after (a ||| m))) ∧
    (i.mnemonic = .EOR → exec i s = .next (after (a ^^^ m)))

/-- R166 to R169: CMP, CPX, CPY and BIT in every mode. -/
def Obligations.ComparesAndBitSetTheFlags : Prop :=
  HasForms .CMP
    [⟨0xC9#8, .IMM, 2, false⟩, ⟨0xC5#8, .ZP, 3, false⟩, ⟨0xD5#8, .ZPX, 4, false⟩, ⟨0xCD#8, .ABS, 4, false⟩,
      ⟨0xDD#8, .ABSX, 4, true⟩, ⟨0xD9#8, .ABSY, 4, true⟩, ⟨0xC1#8, .IZX, 6, false⟩, ⟨0xD1#8, .IZY, 5, true⟩] ∧
  HasForms .CPX [⟨0xE0#8, .IMM, 2, false⟩, ⟨0xE4#8, .ZP, 3, false⟩, ⟨0xEC#8, .ABS, 4, false⟩] ∧
  HasForms .CPY [⟨0xC0#8, .IMM, 2, false⟩, ⟨0xC4#8, .ZP, 3, false⟩, ⟨0xCC#8, .ABS, 4, false⟩] ∧
  HasForms .BIT [⟨0x24#8, .ZP, 3, false⟩, ⟨0x2C#8, .ABS, 4, false⟩] ∧
  ∀ (i : Instr) (s : State),
    let m := (dataRead i s).1
    let after (f : Flags) : State :=
      { (dataRead i s).2 with
        cpu := { s.cpu with f := f }, sched := { s.sched with acc := s.sched.acc + cycleCost i s } }
    let compared (r : Byte) : Flags :=
      { s.cpu.f with
        c := decide (r.toNat ≥ m.toNat)
        z := decide (r = m)
        n := decide ((r.toNat + 256 - m.toNat) % 256 ≥ 0x80) }
    (i.mnemonic = .CMP → exec i s = .next (after (compared s.cpu.a))) ∧
    (i.mnemonic = .CPX → exec i s = .next (after (compared s.cpu.x))) ∧
    (i.mnemonic = .CPY → exec i s = .next (after (compared s.cpu.y))) ∧
    (i.mnemonic = .BIT →
      exec i s =
        .next
          (after { s.cpu.f with z := decide (s.cpu.a &&& m = 0x00#8), n := m.getLsbD 7, v := m.getLsbD 6 }))

/-- R170 and R171: INC and DEC in every mode: one read, one write of the result to the same address, Z and N. -/
def Obligations.IncrementAndDecrementMemory : Prop :=
  HasForms .INC
    [⟨0xE6#8, .ZP, 5, false⟩, ⟨0xF6#8, .ZPX, 6, false⟩, ⟨0xEE#8, .ABS, 6, false⟩, ⟨0xFE#8, .ABSX, 7, false⟩] ∧
  HasForms .DEC
    [⟨0xC6#8, .ZP, 5, false⟩, ⟨0xD6#8, .ZPX, 6, false⟩, ⟨0xCE#8, .ABS, 6, false⟩, ⟨0xDE#8, .ABSX, 7, false⟩] ∧
  ∀ (i : Instr) (s : State),
    let m := (dataRead i s).1
    let after (r : Byte) : State :=
      { (dataRead i s).2.busWrite (ea i s).addr r with
        cpu := { s.cpu with f := { s.cpu.f with z := decide (r = 0x00#8), n := r.getLsbD 7 } }
        sched := { s.sched with acc := s.sched.acc + cycleCost i s + oamStall (ea i s).addr } }
    (i.mnemonic = .INC → exec i s = .next (after (BitVec.ofNat 8 ((m.toNat + 1) % 256)))) ∧
    (i.mnemonic = .DEC → exec i s = .next (after (BitVec.ofNat 8 ((m.toNat + 255) % 256))))

/-- R172 to R175: INX, INY, DEX and DEY. -/
def Obligations.IncrementAndDecrementIndex : Prop :=
  HasForms .INX [⟨0xE8#8, .IMP, 2, false⟩] ∧ HasForms .INY [⟨0xC8#8, .IMP, 2, false⟩] ∧
  HasForms .DEX [⟨0xCA#8, .IMP, 2, false⟩] ∧ HasForms .DEY [⟨0x88#8, .IMP, 2, false⟩] ∧
  ∀ s : State,
    let f (r : Byte) : Flags := { s.cpu.f with z := decide (r = 0x00#8), n := r.getLsbD 7 }
    let up (r : Byte) : Byte := BitVec.ofNat 8 ((r.toNat + 1) % 256)
    let down (r : Byte) : Byte := BitVec.ofNat 8 ((r.toNat + 255) % 256)
    let after (c : Cpu) : State := { s with cpu := c, sched := { s.sched with acc := s.sched.acc + 2 } }
    exec .inx s = .next (after { s.cpu with x := up s.cpu.x, f := f (up s.cpu.x) }) ∧
    exec .iny s = .next (after { s.cpu with y := up s.cpu.y, f := f (up s.cpu.y) }) ∧
    exec .dex s = .next (after { s.cpu with x := down s.cpu.x, f := f (down s.cpu.x) }) ∧
    exec .dey s = .next (after { s.cpu with y := down s.cpu.y, f := f (down s.cpu.y) })

/-! ## Shifts and rotates -/

/-- R191 and R192: ASL and LSR, on the accumulator and on memory. -/
def Obligations.ShiftsMoveOneBit : Prop :=
  HasForms .ASL
    [⟨0x0A#8, .ACC, 2, false⟩, ⟨0x06#8, .ZP, 5, false⟩, ⟨0x16#8, .ZPX, 6, false⟩, ⟨0x0E#8, .ABS, 6, false⟩,
      ⟨0x1E#8, .ABSX, 7, false⟩] ∧
  HasForms .LSR
    [⟨0x4A#8, .ACC, 2, false⟩, ⟨0x46#8, .ZP, 5, false⟩, ⟨0x56#8, .ZPX, 6, false⟩, ⟨0x4E#8, .ABS, 6, false⟩,
      ⟨0x5E#8, .ABSX, 7, false⟩] ∧
  ∀ (i : Instr) (s : State),
    let v := if i.mode = .ACC then s.cpu.a else (dataRead i s).1
    let f (r : Byte) (c : Bool) : Flags := { s.cpu.f with c := c, z := decide (r = 0x00#8), n := r.getLsbD 7 }
    let after (r : Byte) (c : Bool) : State :=
      if i.mode = .ACC then
        { s with cpu := { s.cpu with a := r, f := f r c }, sched := { s.sched with acc := s.sched.acc + cycleCost i s } }
      else
        { (dataRead i s).2.busWrite (ea i s).addr r with
          cpu := { s.cpu with f := f r c }
          sched := { s.sched with acc := s.sched.acc + cycleCost i s + oamStall (ea i s).addr } }
    (i.mnemonic = .ASL → exec i s = .next (after (BitVec.ofNat 8 (v.toNat * 2 % 256)) (v.getLsbD 7))) ∧
    (i.mnemonic = .LSR → exec i s = .next (after (BitVec.ofNat 8 (v.toNat / 2)) (v.getLsbD 0)))

/-- R193 and R194: ROL and ROR, on the accumulator and on memory: nine-bit rotations through the carry. -/
def Obligations.RotatesGoThroughTheCarry : Prop :=
  HasForms .ROL
    [⟨0x2A#8, .ACC, 2, false⟩, ⟨0x26#8, .ZP, 5, false⟩, ⟨0x36#8, .ZPX, 6, false⟩, ⟨0x2E#8, .ABS, 6, false⟩,
      ⟨0x3E#8, .ABSX, 7, false⟩] ∧
  HasForms .ROR
    [⟨0x6A#8, .ACC, 2, false⟩, ⟨0x66#8, .ZP, 5, false⟩, ⟨0x76#8, .ZPX, 6, false⟩, ⟨0x6E#8, .ABS, 6, false⟩,
      ⟨0x7E#8, .ABSX, 7, false⟩] ∧
  ∀ (i : Instr) (s : State),
    let v := if i.mode = .ACC then s.cpu.a else (dataRead i s).1
    let old := if s.cpu.f.c then 1 else 0
    let f (r : Byte) (c : Bool) : Flags := { s.cpu.f with c := c, z := decide (r = 0x00#8), n := r.getLsbD 7 }
    let after (r : Byte) (c : Bool) : State :=
      if i.mode = .ACC then
        { s with cpu := { s.cpu with a := r, f := f r c }, sched := { s.sched with acc := s.sched.acc + cycleCost i s } }
      else
        { (dataRead i s).2.busWrite (ea i s).addr r with
          cpu := { s.cpu with f := f r c }
          sched := { s.sched with acc := s.sched.acc + cycleCost i s + oamStall (ea i s).addr } }
    (i.mnemonic = .ROL → exec i s = .next (after (BitVec.ofNat 8 (v.toNat * 2 % 256 + old)) (v.getLsbD 7))) ∧
    (i.mnemonic = .ROR → exec i s = .next (after (BitVec.ofNat 8 (v.toNat / 2 + old * 128)) (v.getLsbD 0)))

/-! ## Control flow -/

/-- R201 with R112: JMP to its operand, and through a pointer whose high byte comes from the pointer's own page. -/
def Obligations.JumpsSetThePc : Prop :=
  HasForms .JMP [⟨0x4C#8, .ABS, 3, false⟩, ⟨0x6C#8, .IND, 5, false⟩] ∧
  ∀ (w : Addr) (s : State),
    exec (.jmpAbs w) s =
        .next { s with cpu := { s.cpu with pc := w }, sched := { s.sched with acc := s.sched.acc + 3 } } ∧
    (let lo := s.busRead w
     let hi := lo.2.busRead (BitVec.ofNat 16 (w.toNat / 256 * 256 + (w.toNat % 256 + 1) % 256))
     exec (.jmpInd w) s =
       .next
         { hi.2 with
           cpu := { s.cpu with pc := BitVec.ofNat 16 (hi.1.toNat * 256 + lo.1.toNat) }
           sched := { s.sched with acc := s.sched.acc + 5 } })

/-- R202 and R204: JSR pushes the address of its own last byte, high byte first, and jumps; RTS pulls an address, low byte
first, and adds one. -/
def Obligations.CallAndReturn : Prop :=
  HasForms .JSR [⟨0x20#8, .ABS, 6, false⟩] ∧ HasForms .RTS [⟨0x60#8, .IMP, 6, false⟩] ∧
  (∀ (w : Addr) (s : State),
    let ret : Addr := s.cpu.pc - 1#16
    let u := afterPushes [ret.extractLsb' 8 8, ret.extractLsb' 0 8] s
    exec (.jsr w) s =
      .next { u with cpu := { u.cpu with pc := w }, sched := { s.sched with acc := s.sched.acc + 6 } }) ∧
  ∀ s : State,
    exec .rts s =
      .next
        { s with
          cpu :=
            { s.cpu with
              sp := s.cpu.sp + 2#8
              pc := BitVec.ofNat 16 (((pulledByte 2 s).toNat * 256 + (pulledByte 1 s).toNat + 1) % 65536) }
          sched := { s.sched with acc := s.sched.acc + 6 } }

/-- R203 and R205 to R212: the eight branches, taken and not taken. -/
def Obligations.BranchesTestOneFlag : Prop :=
  HasForms .BCC [⟨0x90#8, .REL, 2, false⟩] ∧ HasForms .BCS [⟨0xB0#8, .REL, 2, false⟩] ∧
  HasForms .BEQ [⟨0xF0#8, .REL, 2, false⟩] ∧ HasForms .BNE [⟨0xD0#8, .REL, 2, false⟩] ∧
  HasForms .BMI [⟨0x30#8, .REL, 2, false⟩] ∧ HasForms .BPL [⟨0x10#8, .REL, 2, false⟩] ∧
  HasForms .BVC [⟨0x50#8, .REL, 2, false⟩] ∧ HasForms .BVS [⟨0x70#8, .REL, 2, false⟩] ∧
  ∀ (o : Byte) (s : State),
    exec (.bcc o) s = .next (branchEffect (!s.cpu.f.c) o s) ∧ exec (.bcs o) s = .next (branchEffect s.cpu.f.c o s) ∧
    exec (.beq o) s = .next (branchEffect s.cpu.f.z o s) ∧ exec (.bne o) s = .next (branchEffect (!s.cpu.f.z) o s) ∧
    exec (.bmi o) s = .next (branchEffect s.cpu.f.n o s) ∧ exec (.bpl o) s = .next (branchEffect (!s.cpu.f.n) o s) ∧
    exec (.bvc o) s = .next (branchEffect (!s.cpu.f.v) o s) ∧ exec (.bvs o) s = .next (branchEffect s.cpu.f.v o s)

/-! ## Stack, flags and system -/

/-- R221 to R224: PHA and PHP, PLA and PLP. -/
def Obligations.PushesAndPulls : Prop :=
  HasForms .PHA [⟨0x48#8, .IMP, 3, false⟩] ∧ HasForms .PHP [⟨0x08#8, .IMP, 3, false⟩] ∧
  HasForms .PLA [⟨0x68#8, .IMP, 4, false⟩] ∧ HasForms .PLP [⟨0x28#8, .IMP, 4, false⟩] ∧
  ∀ s : State,
    let pushed (v : Byte) : State :=
      { s with
        mem := s.mem.write (0x0100 + s.cpu.sp.toNat) v
        cpu := { s.cpu with sp := s.cpu.sp - 1#8 }
        sched := { s.sched with acc := s.sched.acc + 3 } }
    let v := pulledByte 1 s
    let after (c : Cpu) : State :=
      { s with cpu := { c with sp := s.cpu.sp + 1#8 }, sched := { s.sched with acc := s.sched.acc + 4 } }
    exec .pha s = .next (pushed s.cpu.a) ∧ exec .php s = .next (pushed (s.cpu.f.pack ||| 0x30#8)) ∧
    exec .pla s =
        .next (after { s.cpu with a := v, f := { s.cpu.f with z := decide (v = 0x00#8), n := v.getLsbD 7 } }) ∧
    exec .plp s =
        .next
          (after
            { s.cpu with
              f :=
                { c := v.getLsbD 0, z := v.getLsbD 1, i := v.getLsbD 2, d := v.getLsbD 3, b := s.cpu.f.b
                  v := v.getLsbD 6, n := v.getLsbD 7 } })

/-- R225 to R232: the seven flag instructions write one flag each, and NOP nothing. -/
def Obligations.FlagInstructionsAndNop : Prop :=
  HasForms .CLC [⟨0x18#8, .IMP, 2, false⟩] ∧ HasForms .SEC [⟨0x38#8, .IMP, 2, false⟩] ∧
  HasForms .CLI [⟨0x58#8, .IMP, 2, false⟩] ∧ HasForms .SEI [⟨0x78#8, .IMP, 2, false⟩] ∧
  HasForms .CLD [⟨0xD8#8, .IMP, 2, false⟩] ∧ HasForms .SED [⟨0xF8#8, .IMP, 2, false⟩] ∧
  HasForms .CLV [⟨0xB8#8, .IMP, 2, false⟩] ∧ HasForms .NOP [⟨0xEA#8, .IMP, 2, false⟩] ∧
  ∀ s : State,
    let after (f : Flags) : State :=
      { s with cpu := { s.cpu with f := f }, sched := { s.sched with acc := s.sched.acc + 2 } }
    exec .clc s = .next (after { s.cpu.f with c := false }) ∧ exec .sec s = .next (after { s.cpu.f with c := true }) ∧
    exec .cli s = .next (after { s.cpu.f with i := false }) ∧ exec .sei s = .next (after { s.cpu.f with i := true }) ∧
    exec .cld s = .next (after { s.cpu.f with d := false }) ∧ exec .sed s = .next (after { s.cpu.f with d := true }) ∧
    exec .clv s = .next (after { s.cpu.f with v := false }) ∧ exec .nop s = .next (after s.cpu.f)

/-- R233: BRK takes the trap: the return address (one byte more is skipped) and the status with bits 4 and 5 set are
pushed, I is set and PC comes from the vector at 0xFFFE. -/
def Obligations.BrkTakesTheTrap : Prop :=
  HasForms .BRK [⟨0x00#8, .IMP, 7, false⟩] ∧
  ∀ s : State,
    let ret : Addr := s.cpu.pc + 1#16
    let u := afterPushes [ret.extractLsb' 8 8, ret.extractLsb' 0 8, s.cpu.f.pack ||| 0x30#8] s
    exec .brk s =
      .next
        { u with
          cpu := { u.cpu with pc := vectorAt 0xFFFE#16 s, f := { s.cpu.f with i := true } }
          sched := { s.sched with acc := s.sched.acc + 7 } }

/-- R234: RTI takes the six flags from the pulled byte and PC from the next two, nothing added. -/
def Obligations.RtiRestoresStatusAndPc : Prop :=
  HasForms .RTI [⟨0x40#8, .IMP, 6, false⟩] ∧
  ∀ s : State,
    let v := pulledByte 1 s
    exec .rti s =
      .next
        { s with
          cpu :=
            { s.cpu with
              sp := s.cpu.sp + 3#8
              pc := BitVec.ofNat 16 ((pulledByte 3 s).toNat * 256 + (pulledByte 2 s).toNat)
              f :=
                { c := v.getLsbD 0, z := v.getLsbD 1, i := v.getLsbD 2, d := v.getLsbD 3, b := s.cpu.f.b
                  v := v.getLsbD 6, n := v.getLsbD 7 } }
          sched := { s.sched with acc := s.sched.acc + 6 } }

/-! ## What holds of every instruction -/

/-- R124: every instruction completes, and its step costs the base count of its cell and exactly the variations the rule
names; an interrupt entry costs 7. -/
def Obligations.CyclePenalties : Prop :=
  (∀ (i : Instr) (s : State), ∃ t, exec i s = .next t ∧
    t.sched.acc =
      s.sched.acc + baseCycles i.mnemonic i.mode
        + (if i.mnemonic ∈ [.LDA, .LDX, .LDY, .ADC, .SBC, .AND, .ORA, .EOR, .CMP] ∧ i.mode ∈ [.ABSX, .ABSY, .IZY] ∧
              (ea i s).crossed = true then 1 else 0)
        + (if branchTaken i s.cpu.f = true then
            (if (ea i s).addr.toNat / 256 = s.cpu.pc.toNat / 256 then 1 else 2) else 0)
        + (if storesAtEa i = true ∧ (ea i s).addr = 0x4014#16 then Config.oamDmaStall else 0)) ∧
  ∀ (k : Interrupt) (s : State), (s.enterInterrupt k).sched.acc = s.sched.acc + 7

/-- No instruction touches what is not the processor's: the pending marks, the nametables, the cartridge, CHR, the
parameters, the buttons, the stop flag, the external agents' choices and the picture unit's step count stay, the stored
Break flag stays, and the mapper and the mirroring mode change only by a store to the cartridge range (R29, R33, R91). -/
def Obligations.InstructionFrame : Prop :=
  ∀ (i : Instr) (s t : State), exec i s = .next t →
    t.pend = s.pend ∧ t.nt0 = s.nt0 ∧ t.nt1 = s.nt1 ∧ t.cart = s.cart ∧ t.chr = s.chr ∧ t.params = s.params ∧
    t.env = s.env ∧ t.pads.buttons = s.pads.buttons ∧ t.sched.stop = s.sched.stop ∧ t.sched.atTop = s.sched.atTop ∧
    t.dev.history.ppuSteps = s.dev.history.ppuSteps ∧ t.cpu.f.b = s.cpu.f.b ∧
    ((storesAtEa i = false ∨ (ea i s).addr.toNat < 0x8000) → t.mapper = s.mapper ∧ t.mirror = s.mirror)

/-- A form that neither stores at its effective address nor pushes leaves every byte of storage and of the cartridge range
as it was, and the strobe. -/
def Obligations.NonStoringFormsLeaveMemory : Prop :=
  ∀ (i : Instr) (s t : State), exec i s = .next t → storesAtEa i = false → pushCount i = 0 →
    (∀ a : Addr, t.peek a = s.peek a) ∧ t.mem = s.mem ∧ t.pads.strobe = s.pads.strobe

/-- A form that stores at its effective address changes one storage byte at most: the one that address names, through any
of its mirrors; a store to the cartridge range changes no storage byte, and any other store no cartridge byte; a store to
a device register or a controller port changes neither. -/
def Obligations.StoringFormsChangeOneByte : Prop :=
  ∀ (i : Instr) (s t : State) (b : Addr), exec i s = .next t → storesAtEa i = true →
    let a := (ea i s).addr.toNat
    (a < 0x2000 → (0x2000 ≤ b.toNat ∨ b.toNat % 0x0800 ≠ a % 0x0800) → t.peek b = s.peek b) ∧
    (0x4020 ≤ a → a < 0x8000 → b.toNat ≠ a → t.peek b = s.peek b) ∧
    (0x8000 ≤ a → b.toNat < 0x8000 → t.peek b = s.peek b) ∧
    (0x2000 ≤ a → a < 0x4020 → t.peek b = s.peek b) ∧
    (0x2000 ≤ a → (a < 0x4020 ∨ 0x8000 ≤ a) → t.mem = s.mem)

/-- A form that pushes changes only the bytes it pushes, in page 1 below the old stack address, wrapping inside the page:
one for PHA and PHP, two for JSR, three for BRK. -/
def Obligations.PushingFormsChangeTheirStackBytes : Prop :=
  ∀ (i : Instr) (s t : State) (b : Addr), exec i s = .next t → 0 < pushCount i →
    t.cpu.sp = s.cpu.sp - BitVec.ofNat 8 (pushCount i) ∧
    ((0x2000 ≤ b.toNat ∨
        ∀ k, k < pushCount i → b.toNat % 0x0800 ≠ 0x0100 + (s.cpu.sp - BitVec.ofNat 8 k).toNat) →
      t.peek b = s.peek b)

/-! ## The bus -/

/-- R56: what a bus read answers and changes, by region. A device answers any byte; the access is put on the record
(R62). -/
def Obligations.BusReadContract : Prop :=
  ∀ (a : Addr) (s : State),
    let n := a.toNat
    let recorded (d : Device) (r : Nat) (v : Byte) : Dev :=
      { s.dev with history := { s.dev.history with events := .devRead d r v :: s.dev.history.events } }
    let ppu (r : Nat) : Byte × State :=
      let v := Config.deviceRead .ppu r s.dev.history
      (v, { s with dev := { recorded .ppu r v with ppuTouched := true } })
    let apu (r : Nat) : Byte × State :=
      let v := Config.deviceRead .apu r s.dev.history
      (v, { s with dev := recorded .apu r v })
    (n < 0x2000 → s.busRead a = (s.mem.read (n % 0x0800), s)) ∧
    (0x4020 ≤ n → n < 0x8000 → s.busRead a = (s.mem.read n, s)) ∧
    (0x8000 ≤ n → s.busRead a = (mapperRead s.cart s.mapper a, s)) ∧
    (0x2000 ≤ n → n < 0x4000 → s.busRead a = ppu (n % 8)) ∧
    (n = 0x4014 → s.busRead a = ppu 0x14) ∧
    (0x4000 ≤ n → n < 0x4020 → n ≠ 0x4014 → n ≠ 0x4016 → n ≠ 0x4017 → s.busRead a = apu n) ∧
    (n = 0x4016 → s.busRead a = (s.pads.answer false, { s with pads := s.pads.advance false })) ∧
    (n = 0x4017 → s.busRead a = (s.pads.answer true, { s with pads := s.pads.advance true }))

/-- R57: what a bus write changes, by region; the storage byte written is read back at once. A write of 0x4014 also adds
OAM_DMA_STALL to the running step's cycles (R60). -/
def Obligations.BusWriteContract : Prop :=
  ∀ (a : Addr) (v : Byte) (s : State),
    let n := a.toNat
    let recorded (d : Device) (r : Nat) : Dev :=
      { s.dev with history := { s.dev.history with events := .devWrite d r v :: s.dev.history.events } }
    (n < 0x2000 → s.busWrite a v = { s with mem := s.mem.write (n % 0x0800) v }) ∧
    (0x4020 ≤ n → n < 0x8000 → s.busWrite a v = { s with mem := s.mem.write n v }) ∧
    (s.mem.wf = true → (n < 0x2000 ∨ (0x4020 ≤ n ∧ n < 0x8000)) → (s.busWrite a v).peek a = some v) ∧
    (0x8000 ≤ n → s.busWrite a v = s.mapperWrite a v ∧ (s.mapperWrite a v).mem = s.mem) ∧
    (0x2000 ≤ n → n < 0x4000 → s.busWrite a v = { s with dev := { recorded .ppu (n % 8) with ppuTouched := true } }) ∧
    (n = 0x4014 →
      s.busWrite a v =
        { s with
          dev := { recorded .ppu 0x14 with ppuTouched := true, oamPage := some v }
          sched := { s.sched with acc := s.sched.acc + Config.oamDmaStall } }) ∧
    (0x4000 ≤ n → n < 0x4020 → n ≠ 0x4014 → n ≠ 0x4016 → n ≠ 0x4017 → s.busWrite a v = { s with dev := recorded .apu n }) ∧
    (n = 0x4016 ∨ n = 0x4017 → s.busWrite a v = { s with pads := s.pads.strobeWrite v })

/-- R58: the four mirrors of internal RAM name one byte, for reads and for writes. -/
def Obligations.RamMirrorsNameOneByte : Prop :=
  ∀ (s : State) (a j k : Nat) (v : Byte), s.mem.wf = true → a < 0x0800 → j < 4 → k < 4 →
    let mirror (m : Nat) : Addr := BitVec.ofNat 16 (a + 0x0800 * m)
    ((s.busWrite (mirror j) v).busRead (mirror k)).1 = v ∧
    (s.busRead (mirror j)).1 = (s.busRead (mirror k)).1 ∧
    s.busWrite (mirror j) v = s.busWrite (mirror k) v

/-- R92 and R93, at the bus: a strobe write of either port, and that no other write touches the pads; the read of each port; and what follows from them, that the
eight reads after a strobe pulse answer the eight buttons of the pad in order. -/
def Obligations.ControllerPorts : Prop :=
  (∀ (a : Addr) (v : Byte) (s : State), a = 0x4016#16 ∨ a = 0x4017#16 →
    let reset := s.pads.strobe = true ∧ v.getLsbD 0 = false
    s.busWrite a v =
      { s with
        pads :=
          { buttons := s.pads.buttons, strobe := v.getLsbD 0
            rd0 := if reset then 0 else s.pads.rd0
            rd1 := if reset then 0 else s.pads.rd1 } }) ∧
  (∀ (a : Addr) (v : Byte) (s : State), a ≠ 0x4016#16 → a ≠ 0x4017#16 → (s.busWrite a v).pads = s.pads) ∧
  (∀ s : State,
    (s.busRead 0x4016#16).2 = { s with pads := { s.pads with rd0 := (s.pads.rd0 + 1) % 24 } } ∧
    (s.busRead 0x4017#16).2 = { s with pads := { s.pads with rd1 := (s.pads.rd1 + 1) % 24 } } ∧
    (s.pads.rd0 < 8 →
      (s.busRead 0x4016#16).1 = if s.pads.buttons.getLsbD s.pads.rd0 then 0x01#8 else 0x00#8) ∧
    (s.pads.rd1 < 8 →
      (s.busRead 0x4017#16).1 = if s.pads.buttons.getLsbD (8 + s.pads.rd1) then 0x01#8 else 0x00#8) ∧
    (8 ≤ s.pads.rd0 → s.pads.rd0 ≤ 23 → (s.busRead 0x4016#16).1 = Config.padTail 0 s.pads.rd0) ∧
    (8 ≤ s.pads.rd1 → s.pads.rd1 ≤ 23 → (s.busRead 0x4017#16).1 = Config.padTail 1 s.pads.rd1)) ∧
  ∀ (s : State) (k : Nat), k < 8 →
    let pulsed := (s.busWrite 0x4016#16 0x01#8).busWrite 0x4016#16 0x00#8
    let readAgain (a : Addr) (t : State) : State := (t.busRead a).2
    ((readAgain 0x4016#16)^[k] pulsed).busRead 0x4016#16 =
      (if s.pads.buttons.getLsbD k then 0x01#8 else 0x00#8, (readAgain 0x4016#16)^[k + 1] pulsed) ∧
    ((readAgain 0x4017#16)^[k] pulsed).busRead 0x4017#16 =
      (if s.pads.buttons.getLsbD (8 + k) then 0x01#8 else 0x00#8, (readAgain 0x4017#16)^[k + 1] pulsed)

/-- R87 to R90: the table behind each slot in each mode; the slot and offset of an address; a write and a read through
them; and that a mode switch moves no byte: what was written through a slot is read through every slot that leads to the
same table in the new mode. -/
def Obligations.NametableMirroring : Prop :=
  (∀ slot : BitVec 2,
    physTable .horizontal slot = decide (slot.toNat ≥ 2) ∧ physTable .vertical slot = decide (slot.toNat % 2 = 1) ∧
    physTable .singleScreenUpper slot = true ∧ physTable .singleScreenLower slot = false) ∧
  (∀ v : Addr, ntRelative v = BitVec.ofNat 12 (v.toNat % 0x1000)) ∧
  (∀ (s : State) (r : NametableAddr) (v : Byte),
    let second := physTable s.mirror (BitVec.ofNat 2 (r.toNat / 1024))
    s.ntRead r = (if second then s.nt1 else s.nt0).read (r.toNat % 1024) ∧
    s.ntWrite r v =
      (if second then { s with nt1 := s.nt1.write (r.toNat % 1024) v }
       else { s with nt0 := s.nt0.write (r.toNat % 1024) v })) ∧
  (∀ (s : State) (m : Mirroring), s.setMirroring m = { s with mirror := m }) ∧
  ∀ (s : State) (r q : NametableAddr) (v : Byte) (m : Mirroring), s.nt0.wf = true → s.nt1.wf = true →
    q.toNat % 1024 = r.toNat % 1024 →
    physTable m (BitVec.ofNat 2 (q.toNat / 1024)) = physTable s.mirror (BitVec.ofNat 2 (r.toNat / 1024)) →
    ((s.ntWrite r v).setMirroring m).ntRead q = v

/-! ## The mapper -/

/-- A bank index is always taken modulo the number of banks (R282, R76): no register value of any variant, and no value of
the MMC5 stub's parameter, indexes out of PRG or CHR. -/
def Obligations.BankIndexesStayInBounds : Prop :=
  (∀ len sz b off : Nat, bankIndex len sz (b : Int) off = bankView len sz b off) ∧
  (∀ (c : Cart) (m : MapperState) (a : Addr), 1 ≤ c.prg16 → prgIndex c m a < 16384 * c.prg16) ∧
  ∀ (c : Cart) (m : MapperState) (a : PatternAddr),
    chrIndex c m a < if c.chr8 = 0 then 8192 else 8192 * c.chr8

/-- R285: a CHR-RAM is read and written at the address itself; a CHR-ROM is read through
the variant's window and ignores writes; a tile is sixteen bytes in order,
wrapping in the pattern space; and without CHR banks every CHR bank register keeps its value. -/
def Obligations.PatternSpace : Prop :=
  (∀ (s : State) (a : PatternAddr) (v : Byte),
    (s.cart.chr8 = 0 → s.readVram a = s.chr.read a.toNat ∧ s.writeVram a v = { s with chr := s.chr.write a.toNat v }) ∧
    (s.cart.chr8 ≠ 0 →
      (let w := chrWindow s.mapper a
       s.readVram a = s.chr.read (bankView (8192 * s.cart.chr8) w.1 w.2 (a.toNat % w.1))) ∧
      s.writeVram a v = s) ∧
    (s.cart.chr8 = 0 → s.chr.wf = true → (s.writeVram a v).readVram a = v) ∧
    (s.readTile a).length = 16 ∧
    ∀ k, k < 16 → (s.readTile a).getD k 0#8 = s.readVram (BitVec.ofNat 13 ((a.toNat + k) % 0x2000))) ∧
  ∀ (s : State) (a : Addr) (v : Byte), s.cart.chr8 = 0 →
    (∀ csel, s.mapper = .cnrom csel → (s.mapperWrite a v).mapper = .cnrom csel) ∧
    (∀ r, s.mapper = .mmc1 r → ∃ q, (s.mapperWrite a v).mapper = .mmc1 q ∧ q.chr0 = r.chr0 ∧ q.chr1 = r.chr1) ∧
    (∀ r, s.mapper = .mmc2 r → ∃ q, (s.mapperWrite a v).mapper = .mmc2 q ∧
      q.chrFD0 = r.chrFD0 ∧ q.chrFE0 = r.chrFE0 ∧ q.chrFD1 = r.chrFD1 ∧ q.chrFE1 = r.chrFE1) ∧
    (∀ r, s.mapper = .mmc3 r → ∃ q, (s.mapperWrite a v).mapper = .mmc3 q ∧
      q.r0 = r.r0 ∧ q.r1 = r.r1 ∧ q.r2 = r.r2 ∧ q.r3 = r.r3 ∧ q.r4 = r.r4 ∧ q.r5 = r.r5)

/-- R286 to R290: NROM, UNROM, CNROM and AxROM: what a read of the cartridge range shows, which CHR bank the pattern space
shows, and what a write changes. -/
def Obligations.SimpleMappers : Prop :=
  ∀ (s : State) (a : Addr) (v : Byte) (c : PatternAddr), 0x8000 ≤ a.toNat → 1 ≤ s.cart.prg16 →
    let n16 := s.cart.prg16
    let shows (sz b : Nat) : Prop := (s.busRead a).1 = s.cart.prg.read (bankView (16384 * n16) sz b (a.toNat % sz))
    let chrShows (b : Nat) : Prop :=
      s.cart.chr8 ≠ 0 → s.readVram c = s.chr.read (bankView (8192 * s.cart.chr8) 0x2000 b (c.toNat % 0x2000))
    let low := a.toNat < 0xC000
    (s.mapper = .nrom → shows 0x4000 (if low then 0 else n16 - 1) ∧ chrShows 0 ∧ s.busWrite a v = s) ∧
    (∀ sel, s.mapper = .unrom sel → shows 0x4000 (if low then sel.toNat else n16 - 1) ∧ chrShows 0 ∧
      s.busWrite a v = { s with mapper := .unrom (v &&& s.params.unromPrgMask) }) ∧
    (∀ csel, s.mapper = .cnrom csel → shows 0x4000 (if low then 0 else n16 - 1) ∧ chrShows csel.toNat ∧
      s.busWrite a v = if s.cart.chr8 = 0 then s else { s with mapper := .cnrom (v &&& s.params.cnromChrMask) }) ∧
    (∀ sel, s.mapper = .axrom sel → shows 0x8000 sel.toNat ∧ chrShows 0 ∧
      s.busWrite a v =
        { s with
          mapper := .axrom (v &&& s.params.axromPrgMask)
          mirror := if v.getLsbD s.params.axromMirrorBit then .singleScreenUpper else .singleScreenLower })

/-- R293 and R294: the MMC1's PRG and CHR windows. -/
def Obligations.Mmc1Windows : Prop :=
  ∀ (s : State) (r : Mmc1) (a : Addr) (c : PatternAddr), s.mapper = .mmc1 r → 0x8000 ≤ a.toNat → 1 ≤ s.cart.prg16 →
    let mode := r.control.toNat / 4 % 4
    let b := r.prgreg.toNat % 16
    let shows (sz bank : Nat) : Prop :=
      (s.busRead a).1 = s.cart.prg.read (bankView (16384 * s.cart.prg16) sz bank (a.toNat % sz))
    let chrShows (sz bank : Nat) : Prop :=
      s.readVram c = s.chr.read (bankView (8192 * s.cart.chr8) sz bank (c.toNat % sz))
    (mode = 0 ∨ mode = 1 → shows 0x8000 (b / 2)) ∧
    (mode = 2 → shows 0x4000 (if a.toNat < 0xC000 then 0 else b)) ∧
    (mode = 3 → shows 0x4000 (if a.toNat < 0xC000 then b else s.cart.prg16 - 1)) ∧
    (s.cart.chr8 ≠ 0 → r.control.toNat / 16 = 0 → chrShows 0x2000 (r.chr0.toNat / 2)) ∧
    (s.cart.chr8 ≠ 0 → r.control.toNat / 16 = 1 →
      chrShows 0x1000 (if c.toNat < 0x1000 then r.chr0.toNat else r.chr1.toNat))

/-- R295 to R298: the MMC1's writes. A write with bit 7 set clears the buffer and forces PRG mode 3; another shifts its bit 0
in; the fifth loads the register its own address selects, and a control load sets the mirroring mode. From an empty buffer
five writes load the value whose bit `k` is bit 0 of the `k`-th write. -/
def Obligations.Mmc1SerialWrites : Prop :=
  (∀ (s : State) (r : Mmc1) (a : Addr) (v : Byte), s.mapper = .mmc1 r → 0x8000 ≤ a.toNat →
    let value : BitVec 5 := r.shift ||| BitVec.ofNat 5 (v.toNat % 2 * 2 ^ r.count)
    let loaded (q : Mmc1) : Mmc1 := { q with shift := 0#5, count := 0 }
    (v.getLsbD 7 = true →
      s.busWrite a v = { s with mapper := .mmc1 { r with shift := 0#5, count := 0, control := r.control ||| 0x0C#5 } }) ∧
    (v.getLsbD 7 = false → r.count < 4 →
      s.busWrite a v = { s with mapper := .mmc1 { r with shift := value, count := r.count + 1 } }) ∧
    (v.getLsbD 7 = false → r.count = 4 →
      (a.toNat < 0xA000 →
        s.busWrite a v =
          { s with
            mapper := .mmc1 (loaded { r with control := value })
            mirror :=
              if value.toNat % 4 = 0 then .singleScreenLower
              else if value.toNat % 4 = 1 then .singleScreenUpper
              else if value.toNat % 4 = 2 then .vertical else .horizontal }) ∧
      (0xA000 ≤ a.toNat → a.toNat < 0xC000 →
        s.busWrite a v =
          { s with mapper := .mmc1 (loaded { r with chr0 := if s.cart.chr8 = 0 then r.chr0 else value }) }) ∧
      (0xC000 ≤ a.toNat → a.toNat < 0xE000 →
        s.busWrite a v =
          { s with mapper := .mmc1 (loaded { r with chr1 := if s.cart.chr8 = 0 then r.chr1 else value }) }) ∧
      (0xE000 ≤ a.toNat → s.busWrite a v = { s with mapper := .mmc1 (loaded { r with prgreg := value }) }))) ∧
  ∀ (s : State) (r : Mmc1) (a0 a1 a2 a3 a4 : Addr) (v0 v1 v2 v3 v4 : Byte),
    s.mapper = .mmc1 r → r.count = 0 → r.shift = 0#5 →
    (∀ a ∈ [a0, a1, a2, a3], 0x8000 ≤ a.toNat) → 0xE000 ≤ a4.toNat →
    (∀ v ∈ [v0, v1, v2, v3, v4], v.getLsbD 7 = false) →
    ((((s.busWrite a0 v0).busWrite a1 v1).busWrite a2 v2).busWrite a3 v3).busWrite a4 v4 =
      { s with
        mapper :=
          .mmc1
            { r with
              prgreg :=
                BitVec.ofNat 5
                  (v0.toNat % 2 + 2 * (v1.toNat % 2) + 4 * (v2.toNat % 2) + 8 * (v3.toNat % 2) + 16 * (v4.toNat % 2)) } }

/-- R300 to R303: the MMC2's windows, register writes and hook. The fixed window at 0xA000 is claimed for two PRG banks and
more: with one, `n8 - 3` is no bank number and the model's reading is its own (log 14). -/
def Obligations.Mmc2Behaviour : Prop :=
  (∀ (s : State) (r : Mmc2) (a : Addr) (c : PatternAddr), s.mapper = .mmc2 r → 0x8000 ≤ a.toNat → 1 ≤ s.cart.prg16 →
    let n8 := 2 * s.cart.prg16
    let shows (b : Nat) : Prop :=
      (s.busRead a).1 = s.cart.prg.read (bankView (16384 * s.cart.prg16) 0x2000 b (a.toNat % 0x2000))
    (a.toNat < 0xA000 → shows r.prgsel.toNat) ∧
    (0xA000 ≤ a.toNat → a.toNat < 0xC000 → 2 ≤ s.cart.prg16 → shows (n8 - 3)) ∧
    (0xC000 ≤ a.toNat → a.toNat < 0xE000 → shows (n8 - 2)) ∧
    (0xE000 ≤ a.toNat → shows (n8 - 1)) ∧
    (s.cart.chr8 ≠ 0 →
      s.readVram c =
        s.chr.read
          (bankView (8192 * s.cart.chr8) 0x1000
            (if c.toNat < 0x1000 then (if r.latch0 = .fd then r.chrFD0.toNat else r.chrFE0.toNat)
             else (if r.latch1 = .fd then r.chrFD1.toNat else r.chrFE1.toNat))
            (c.toNat % 0x1000)))) ∧
  (∀ (s : State) (r : Mmc2) (a : Addr) (v : Byte), s.mapper = .mmc2 r → 0x8000 ≤ a.toNat →
    let v5 : BitVec 5 := BitVec.ofNat 5 (v.toNat % 32)
    let chrWritten (q : Mmc2) : State := if s.cart.chr8 = 0 then s else { s with mapper := .mmc2 q }
    let page := a.toNat / 0x1000
    (page = 0x8 ∨ page = 0x9 → s.busWrite a v = s) ∧
    (page = 0xA → s.busWrite a v = { s with mapper := .mmc2 { r with prgsel := BitVec.ofNat 4 (v.toNat % 16) } }) ∧
    (page = 0xB → s.busWrite a v = chrWritten { r with chrFD0 := v5 }) ∧
    (page = 0xC → s.busWrite a v = chrWritten { r with chrFE0 := v5 }) ∧
    (page = 0xD → s.busWrite a v = chrWritten { r with chrFD1 := v5 }) ∧
    (page = 0xE → s.busWrite a v = chrWritten { r with chrFE1 := v5 }) ∧
    (page = 0xF → s.busWrite a v = { s with mirror := if v.getLsbD 0 then .horizontal else .vertical })) ∧
  ∀ (s : State) (r : Mmc2) (a : Addr), s.mapper = .mmc2 r →
    let z := a &&& 0x1FF0#16
    s.hook a =
      { s with
        mapper :=
          .mmc2
            { r with
              latch0 := if z = 0x0FD0#16 then .fd else if z = 0x0FE0#16 then .fe else r.latch0
              latch1 := if z = 0x1FD0#16 then .fd else if z = 0x1FE0#16 then .fe else r.latch1 } }

/-- R305 to R308: the MMC3's windows and register writes. -/
def Obligations.Mmc3WindowsAndRegisters : Prop :=
  (∀ (s : State) (r : Mmc3) (a : Addr) (c : PatternAddr), s.mapper = .mmc3 r → 0x8000 ≤ a.toNat → 1 ≤ s.cart.prg16 →
    let n8 := 2 * s.cart.prg16
    let swap := r.bsel.getLsbD 6
    let shows (b : Nat) : Prop :=
      (s.busRead a).1 = s.cart.prg.read (bankView (16384 * s.cart.prg16) 0x2000 b (a.toNat % 0x2000))
    let chrShows (b : Nat) : Prop :=
      s.readVram c = s.chr.read (bankView (8192 * s.cart.chr8) 0x0400 b (c.toNat % 0x0400))
    let t := (c.toNat / 1024 + (if r.bsel.getLsbD 7 then 4 else 0)) % 8
    (a.toNat < 0xA000 → shows (if swap then n8 - 2 else r.r6.toNat)) ∧
    (0xA000 ≤ a.toNat → a.toNat < 0xC000 → shows r.r7.toNat) ∧
    (0xC000 ≤ a.toNat → a.toNat < 0xE000 → shows (if swap then r.r6.toNat else n8 - 2)) ∧
    (0xE000 ≤ a.toNat → shows (n8 - 1)) ∧
    (s.cart.chr8 ≠ 0 →
      (t = 0 → chrShows (r.r0 &&& 0xFE#8).toNat) ∧ (t = 1 → chrShows (r.r0 ||| 1#8).toNat) ∧
      (t = 2 → chrShows (r.r1 &&& 0xFE#8).toNat) ∧ (t = 3 → chrShows (r.r1 ||| 1#8).toNat) ∧
      (t = 4 → chrShows r.r2.toNat) ∧ (t = 5 → chrShows r.r3.toNat) ∧ (t = 6 → chrShows r.r4.toNat) ∧
      (t = 7 → chrShows r.r5.toNat))) ∧
  ∀ (s : State) (r : Mmc3) (a : Addr) (v : Byte), s.mapper = .mmc3 r → 0x8000 ≤ a.toNat →
    let page := a.toNat / 0x2000
    let odd := a.toNat % 2 = 1
    let k := r.bsel.toNat % 8
    let written (q : Mmc3) : State := { s with mapper := .mmc3 q }
    (page = 4 → ¬odd → s.busWrite a v = written { r with bsel := v }) ∧
    (page = 4 → odd →
      s.busWrite a v =
        if 6 ≤ k ∨ s.cart.chr8 ≠ 0 then
          written
            { r with
              r0 := if k = 0 then v else r.r0, r1 := if k = 1 then v else r.r1, r2 := if k = 2 then v else r.r2
              r3 := if k = 3 then v else r.r3, r4 := if k = 4 then v else r.r4, r5 := if k = 5 then v else r.r5
              r6 := if k = 6 then v else r.r6, r7 := if k = 7 then v else r.r7 }
        else s) ∧
    (page = 5 → ¬odd → s.busWrite a v = { s with mirror := if v.getLsbD 0 then .horizontal else .vertical }) ∧
    (page = 5 → odd → s.busWrite a v = s) ∧
    (page = 6 → ¬odd → s.busWrite a v = written { r with irqLatch := v }) ∧
    (page = 6 → odd → s.busWrite a v = written { r with irqReload := true }) ∧
    (page = 7 → ¬odd → s.busWrite a v = written { r with irqEnable := false }) ∧
    (page = 7 → odd → s.busWrite a v = written { r with irqEnable := true })

/-- R309: one `Hook` of the MMC3, and what follows from it: with a reload requested, the interrupt enabled and the latch at
`L`, the counter after the `k + 1`st call is `L - k` and the request comes on call `L + 1` and not before; for `L > 0` call
`L + 2` reloads the counter and makes no request. -/
def Obligations.Mmc3ScanlineCounter : Prop :=
  (∀ (s : State) (r : Mmc3) (a : Addr), s.mapper = .mmc3 r →
    let counter : Byte :=
      if r.irqReload = true ∨ r.irqCounter = 0x00#8 then r.irqLatch else BitVec.ofNat 8 (r.irqCounter.toNat - 1)
    s.hook a =
      { s with
        mapper := .mmc3 { r with irqCounter := counter, irqReload := false }
        pend := if counter = 0x00#8 ∧ r.irqEnable = true then { s.pend with irq := true } else s.pend }) ∧
  ∀ (s : State) (r : Mmc3) (a : Addr), s.mapper = .mmc3 r → r.irqReload = true → r.irqEnable = true →
    s.pend.irq = false →
    (∀ k, k ≤ r.irqLatch.toNat →
      ∃ q, ((State.hook a)^[k + 1] s).mapper = .mmc3 q ∧ q.irqCounter.toNat = r.irqLatch.toNat - k ∧
        ((State.hook a)^[k + 1] s).pend.irq = decide (k = r.irqLatch.toNat)) ∧
    (0 < r.irqLatch.toNat →
      let u := (State.hook a)^[r.irqLatch.toNat + 1] s
      let t := State.hook a { u with pend := { u.pend with irq := false } }
      t.pend.irq = false ∧ ∃ q, t.mapper = .mmc3 q ∧ q.irqCounter = r.irqLatch)

/-- R311: through the MMC5 stub no write to the cartridge range and no hook, whatever its address, changes anything, the
pattern space is one window on bank 0, and a read answers the PRG byte MMC5_PRG_MAP names (the map is a free value; a claim
holds where it names a byte that exists, log 6). -/
def Obligations.Mmc5Stub : Prop :=
  ∀ s : State, s.mapper = .mmc5 →
    (∀ h : Addr, s.hook h = s) ∧
    (s.cart.chr8 ≠ 0 →
      ∀ c : PatternAddr, s.readVram c = s.chr.read (bankView (8192 * s.cart.chr8) 0x2000 0 (c.toNat % 0x2000))) ∧
    ∀ (a : Addr) (v : Byte), 0x8000 ≤ a.toNat →
      s.busWrite a v = s ∧
      (Config.mmc5PrgMap a.toNat < 16384 * s.cart.prg16 →
        s.busRead a = (s.cart.prg.read (Config.mmc5PrgMap a.toNat), s))

/-! ## Interrupts -/

/-- R254: at an instruction boundary Reset is serviced first, then NMI, then IRQ if I is clear; the mark of the one serviced
is cleared and the others stay; otherwise an instruction is executed. -/
def Obligations.InterruptPriority : Prop :=
  ∀ s : State,
    (s.pend.reset = true →
      cpuStep s = .next (State.enterInterrupt .reset { s with pend := { s.pend with reset := false } })) ∧
    (s.pend.reset = false → s.pend.nmi = true →
      cpuStep s = .next (State.enterInterrupt .nmi { s with pend := { s.pend with nmi := false } })) ∧
    (s.pend.reset = false → s.pend.nmi = false → s.pend.irq = true → s.cpu.f.i = false →
      cpuStep s = .next (State.enterInterrupt .irq { s with pend := { s.pend with irq := false } })) ∧
    (s.pend.reset = false → s.pend.nmi = false → (s.pend.irq = false ∨ s.cpu.f.i = true) →
      ∀ (op : Byte) (i : Instr) (u : State), s.fetch = ⟨op, some i, u⟩ → cpuStep s = exec i u)

/-- R256: NMI and IRQ entry. -/
def Obligations.InterruptEntry : Prop :=
  ∀ s : State,
    let u :=
      afterPushes
        [s.cpu.pc.extractLsb' 8 8, s.cpu.pc.extractLsb' 0 8, (s.cpu.f.pack &&& 0xEF#8) ||| 0x20#8] s
    let entered (vector : Addr) : State :=
      { u with
        cpu := { u.cpu with pc := vectorAt vector s, f := { s.cpu.f with i := true } }
        sched := { s.sched with acc := s.sched.acc + 7 } }
    s.enterInterrupt .nmi = entered 0xFFFA#16 ∧ s.enterInterrupt .irq = entered 0xFFFE#16

/-- What returns undo: a handler that leaves the stack as it found it and ends in RTI gives back every register and flag,
at the interrupted instruction after NMI or IRQ entry and past the byte BRK skips after BRK (R260); a subroutine that leaves
the stack as it found it and ends in RTS gives them back at the instruction after its JSR (R202, R204). -/
def Obligations.ReturnsUndoEntriesAndCalls : Prop :=
  ∀ s : State, s.mem.wf = true →
    (∀ k : Interrupt, k ≠ .reset → ∃ u, exec .rti (s.enterInterrupt k) = .next u ∧ u.cpu = s.cpu) ∧
    (∃ t u, exec .brk s = .next t ∧ exec .rti t = .next u ∧ u.cpu = { s.cpu with pc := s.cpu.pc + 1#16 }) ∧
    ∀ w : Addr, ∃ t u, exec (.jsr w) s = .next t ∧ exec .rts t = .next u ∧ t.cpu.pc = w ∧ u.cpu = s.cpu

/-! ## The machine's step -/

/-- A step runs the decoded instruction: when no interrupt is due, the run is not stopped, fewer than 114 cycles are
outstanding and the storage or PRG bytes at PC are an instruction's encoding, the step is `exec` of that instruction on the
state with PC moved past it, followed by what the external agents and the scheduler do at the end of a step (R100, R275).
The second clause covers code fetched from any address, device registers included, through the fetch itself. The third says
what the end of a step leaves alone: the picture unit writes no processor register, no bus storage, no controller state and
no mapper register but through `Hook`, whose part of the registers is the MMC2's latches and the MMC3's counter and reload
mark (R278, R303, R309), and its OAM-DMA accesses are reads (R60). That the agents act at the end of the step is the model's
reading (log 9, log 10), and so is the cut of the loop into steps (log 11, log 12). -/
def Obligations.StepRunsTheDecodedInstruction : Prop :=
  (∀ (s : State) (i : Instr),
    let u := s.atBoundary
    let v := { u with sched := { u.sched with atTop := false } }
    (u.sched.atTop = false ∨ u.sched.stop = false) → u.sched.acc < 114 →
    u.pend.reset = false → u.pend.nmi = false → (u.pend.irq = false ∨ u.cpu.f.i = true) →
    (∀ k, k < (encode i).length → u.peek (u.cpu.pc + BitVec.ofNat 16 k) = (encode i)[k]?) →
    ∃ t, exec i (v.setPc (u.cpu.pc + BitVec.ofNat 16 (encode i).length)) = .next t ∧ step s = .next t.endOfStep) ∧
  (∀ (s : State) (op : Byte) (i : Instr) (w : State),
    let u := s.atBoundary
    let v := { u with sched := { u.sched with atTop := false } }
    (u.sched.atTop = false ∨ u.sched.stop = false) → u.sched.acc < 114 →
    u.pend.reset = false → u.pend.nmi = false → (u.pend.irq = false ∨ u.cpu.f.i = true) →
    v.fetch = ⟨op, some i, w⟩ →
    ∃ t, exec i w = .next t ∧ step s = .next t.endOfStep) ∧
  ∀ t : State,
    let u := t.endOfStep
    u.cpu = t.cpu ∧ u.mem = t.mem ∧ u.mirror = t.mirror ∧ u.cart = t.cart ∧ u.params = t.params ∧
    u.pads.buttons = t.pads.buttons ∧ u.pads.strobe = t.pads.strobe ∧ u.sched.stop = t.sched.stop ∧
    (t.cart.chr8 ≠ 0 → u.chr = t.chr) ∧
    (match t.mapper with
      | .mmc2 r => ∃ l0 l1, u.mapper = .mmc2 { r with latch0 := l0, latch1 := l1 }
      | .mmc3 r => ∃ counter reload, u.mapper = .mmc3 { r with irqCounter := counter, irqReload := reload }
      | m => u.mapper = m)

/-- The machine has no stuck state (R377): a step completes, or the run has ended by the stop flag, or it fetches one of the
105 bytes without a meaning. The stop as a fault, and the boundary moves before it, are log 11 and log 12. -/
def Obligations.EveryStepCompletes : Prop :=
  ∀ s : State,
    (∃ t, step s = .next t) ∨
    (step s = .fault .stopped ∧ s.atBoundary.sched.atTop = true ∧ s.atBoundary.sched.stop = true) ∨
    ∃ op ∈ undefinedOpcodes, step s = .refused (.undefinedOpcode op)

/-- The run ends exactly when the stop flag is set at the top of a scheduler iteration; inside an iteration it is not read
(R276). That the top is the field `atTop` and the end the fault `stopped` is the model's reading (log 11), and so is that the
boundary moves come before the flag is read (log 12). -/
def Obligations.StopEndsTheRunAtTheTop : Prop :=
  ∀ s : State, step s = .fault .stopped ↔ (s.atBoundary.sched.atTop = true ∧ s.atBoundary.sched.stop = true)

/-- R275 and R276: while 114 cycles are outstanding the picture unit makes 341 steps and 114 cycles are taken off; the
remainder is carried over; the processor steps only below 114; and a run that is to stop does so after the iteration it is in.
The last clause is the case a run has: below 114 cycles the step is one processor step, whatever agents act at its end, and
then the iterations its cycles complete. The cut of the loop into steps, and the boundary moves before them all, are the
model's reading (log 11, log 12, log 19). -/
def Obligations.SchedulerRatio : Prop :=
  (∀ s : State, s.sched.stop = false →
    s.settle.sched.acc = s.sched.acc % 114 ∧
    s.settle.dev.history.ppuSteps = s.dev.history.ppuSteps + 341 * (s.sched.acc / 114)) ∧
  (∀ s : State, s.sched.stop = true → 114 ≤ s.sched.acc →
    s.settle.sched.acc = s.sched.acc - 114 ∧ s.settle.sched.atTop = true ∧
    s.settle.dev.history.ppuSteps = s.dev.history.ppuSteps + 341) ∧
  (∀ s : State, (s.atBoundary.sched.atTop = false ∨ s.atBoundary.sched.stop = false) → 114 ≤ s.atBoundary.sched.acc →
    step s = .next s.atBoundary.settle) ∧
  ∀ s t : State,
    let u := s.atBoundary
    (u.sched.atTop = false ∨ u.sched.stop = false) → u.sched.acc < 114 →
    cpuStep { u with sched := { u.sched with atTop := false } } = .next t →
    ∃ w, step s = .next w ∧
      (t.sched.stop = false ∨ t.sched.acc < 114 →
        w.sched.acc = t.sched.acc % 114 ∧
        w.dev.history.ppuSteps = t.dev.history.ppuSteps + 341 * (t.sched.acc / 114)) ∧
      (t.sched.stop = true → 114 ≤ t.sched.acc →
        w.sched.acc = t.sched.acc - 114 ∧ w.dev.history.ppuSteps = t.dev.history.ppuSteps + 341) ∧
      w.sched.atTop = (t.sched.atTop || decide (114 ≤ t.sched.acc))
end

