-- ==== Sys2Proof/Laws/State.lean ====
section
/-! SUPPORT. One lemma per field and per named update of State, each true by rfl. -/

namespace Sys2Proof.Machine

/-! ### mapCpu -/

@[simp] theorem State.mapCpu_cpu (s : State) (f : Cpu → Cpu) : (s.mapCpu f).cpu = f s.cpu := rfl
@[simp] theorem State.mapCpu_pend (s : State) (f : Cpu → Cpu) : (s.mapCpu f).pend = s.pend := rfl
@[simp] theorem State.mapCpu_mem (s : State) (f : Cpu → Cpu) : (s.mapCpu f).mem = s.mem := rfl
@[simp] theorem State.mapCpu_nt0 (s : State) (f : Cpu → Cpu) : (s.mapCpu f).nt0 = s.nt0 := rfl
@[simp] theorem State.mapCpu_nt1 (s : State) (f : Cpu → Cpu) : (s.mapCpu f).nt1 = s.nt1 := rfl
@[simp] theorem State.mapCpu_mirror (s : State) (f : Cpu → Cpu) : (s.mapCpu f).mirror = s.mirror := rfl
@[simp] theorem State.mapCpu_pads (s : State) (f : Cpu → Cpu) : (s.mapCpu f).pads = s.pads := rfl
@[simp] theorem State.mapCpu_mapper (s : State) (f : Cpu → Cpu) : (s.mapCpu f).mapper = s.mapper := rfl
@[simp] theorem State.mapCpu_cart (s : State) (f : Cpu → Cpu) : (s.mapCpu f).cart = s.cart := rfl
@[simp] theorem State.mapCpu_chr (s : State) (f : Cpu → Cpu) : (s.mapCpu f).chr = s.chr := rfl
@[simp] theorem State.mapCpu_params (s : State) (f : Cpu → Cpu) : (s.mapCpu f).params = s.params := rfl
@[simp] theorem State.mapCpu_sched (s : State) (f : Cpu → Cpu) : (s.mapCpu f).sched = s.sched := rfl
@[simp] theorem State.mapCpu_dev (s : State) (f : Cpu → Cpu) : (s.mapCpu f).dev = s.dev := rfl
@[simp] theorem State.mapCpu_env (s : State) (f : Cpu → Cpu) : (s.mapCpu f).env = s.env := rfl

/-! ### setPc -/

@[simp] theorem State.setPc_cpu (s : State) (pc : Addr) : (s.setPc pc).cpu = { s.cpu with pc := pc } := rfl
@[simp] theorem State.setPc_pend (s : State) (pc : Addr) : (s.setPc pc).pend = s.pend := rfl
@[simp] theorem State.setPc_mem (s : State) (pc : Addr) : (s.setPc pc).mem = s.mem := rfl
@[simp] theorem State.setPc_nt0 (s : State) (pc : Addr) : (s.setPc pc).nt0 = s.nt0 := rfl
@[simp] theorem State.setPc_nt1 (s : State) (pc : Addr) : (s.setPc pc).nt1 = s.nt1 := rfl
@[simp] theorem State.setPc_mirror (s : State) (pc : Addr) : (s.setPc pc).mirror = s.mirror := rfl
@[simp] theorem State.setPc_pads (s : State) (pc : Addr) : (s.setPc pc).pads = s.pads := rfl
@[simp] theorem State.setPc_mapper (s : State) (pc : Addr) : (s.setPc pc).mapper = s.mapper := rfl
@[simp] theorem State.setPc_cart (s : State) (pc : Addr) : (s.setPc pc).cart = s.cart := rfl
@[simp] theorem State.setPc_chr (s : State) (pc : Addr) : (s.setPc pc).chr = s.chr := rfl
@[simp] theorem State.setPc_params (s : State) (pc : Addr) : (s.setPc pc).params = s.params := rfl
@[simp] theorem State.setPc_sched (s : State) (pc : Addr) : (s.setPc pc).sched = s.sched := rfl
@[simp] theorem State.setPc_dev (s : State) (pc : Addr) : (s.setPc pc).dev = s.dev := rfl
@[simp] theorem State.setPc_env (s : State) (pc : Addr) : (s.setPc pc).env = s.env := rfl

/-! ### setSp -/

@[simp] theorem State.setSp_cpu (s : State) (sp : Byte) : (s.setSp sp).cpu = { s.cpu with sp := sp } := rfl
@[simp] theorem State.setSp_pend (s : State) (sp : Byte) : (s.setSp sp).pend = s.pend := rfl
@[simp] theorem State.setSp_mem (s : State) (sp : Byte) : (s.setSp sp).mem = s.mem := rfl
@[simp] theorem State.setSp_nt0 (s : State) (sp : Byte) : (s.setSp sp).nt0 = s.nt0 := rfl
@[simp] theorem State.setSp_nt1 (s : State) (sp : Byte) : (s.setSp sp).nt1 = s.nt1 := rfl
@[simp] theorem State.setSp_mirror (s : State) (sp : Byte) : (s.setSp sp).mirror = s.mirror := rfl
@[simp] theorem State.setSp_pads (s : State) (sp : Byte) : (s.setSp sp).pads = s.pads := rfl
@[simp] theorem State.setSp_mapper (s : State) (sp : Byte) : (s.setSp sp).mapper = s.mapper := rfl
@[simp] theorem State.setSp_cart (s : State) (sp : Byte) : (s.setSp sp).cart = s.cart := rfl
@[simp] theorem State.setSp_chr (s : State) (sp : Byte) : (s.setSp sp).chr = s.chr := rfl
@[simp] theorem State.setSp_params (s : State) (sp : Byte) : (s.setSp sp).params = s.params := rfl
@[simp] theorem State.setSp_sched (s : State) (sp : Byte) : (s.setSp sp).sched = s.sched := rfl
@[simp] theorem State.setSp_dev (s : State) (sp : Byte) : (s.setSp sp).dev = s.dev := rfl
@[simp] theorem State.setSp_env (s : State) (sp : Byte) : (s.setSp sp).env = s.env := rfl

/-! ### mapFlags -/

@[simp] theorem State.mapFlags_cpu (s : State) (g : Flags → Flags) : (s.mapFlags g).cpu = { s.cpu with f := g s.cpu.f } := rfl
@[simp] theorem State.mapFlags_pend (s : State) (g : Flags → Flags) : (s.mapFlags g).pend = s.pend := rfl
@[simp] theorem State.mapFlags_mem (s : State) (g : Flags → Flags) : (s.mapFlags g).mem = s.mem := rfl
@[simp] theorem State.mapFlags_nt0 (s : State) (g : Flags → Flags) : (s.mapFlags g).nt0 = s.nt0 := rfl
@[simp] theorem State.mapFlags_nt1 (s : State) (g : Flags → Flags) : (s.mapFlags g).nt1 = s.nt1 := rfl
@[simp] theorem State.mapFlags_mirror (s : State) (g : Flags → Flags) : (s.mapFlags g).mirror = s.mirror := rfl
@[simp] theorem State.mapFlags_pads (s : State) (g : Flags → Flags) : (s.mapFlags g).pads = s.pads := rfl
@[simp] theorem State.mapFlags_mapper (s : State) (g : Flags → Flags) : (s.mapFlags g).mapper = s.mapper := rfl
@[simp] theorem State.mapFlags_cart (s : State) (g : Flags → Flags) : (s.mapFlags g).cart = s.cart := rfl
@[simp] theorem State.mapFlags_chr (s : State) (g : Flags → Flags) : (s.mapFlags g).chr = s.chr := rfl
@[simp] theorem State.mapFlags_params (s : State) (g : Flags → Flags) : (s.mapFlags g).params = s.params := rfl
@[simp] theorem State.mapFlags_sched (s : State) (g : Flags → Flags) : (s.mapFlags g).sched = s.sched := rfl
@[simp] theorem State.mapFlags_dev (s : State) (g : Flags → Flags) : (s.mapFlags g).dev = s.dev := rfl
@[simp] theorem State.mapFlags_env (s : State) (g : Flags → Flags) : (s.mapFlags g).env = s.env := rfl

/-! ### addCycles -/

@[simp] theorem State.addCycles_cpu (s : State) (n : Nat) : (s.addCycles n).cpu = s.cpu := rfl
@[simp] theorem State.addCycles_pend (s : State) (n : Nat) : (s.addCycles n).pend = s.pend := rfl
@[simp] theorem State.addCycles_mem (s : State) (n : Nat) : (s.addCycles n).mem = s.mem := rfl
@[simp] theorem State.addCycles_nt0 (s : State) (n : Nat) : (s.addCycles n).nt0 = s.nt0 := rfl
@[simp] theorem State.addCycles_nt1 (s : State) (n : Nat) : (s.addCycles n).nt1 = s.nt1 := rfl
@[simp] theorem State.addCycles_mirror (s : State) (n : Nat) : (s.addCycles n).mirror = s.mirror := rfl
@[simp] theorem State.addCycles_pads (s : State) (n : Nat) : (s.addCycles n).pads = s.pads := rfl
@[simp] theorem State.addCycles_mapper (s : State) (n : Nat) : (s.addCycles n).mapper = s.mapper := rfl
@[simp] theorem State.addCycles_cart (s : State) (n : Nat) : (s.addCycles n).cart = s.cart := rfl
@[simp] theorem State.addCycles_chr (s : State) (n : Nat) : (s.addCycles n).chr = s.chr := rfl
@[simp] theorem State.addCycles_params (s : State) (n : Nat) : (s.addCycles n).params = s.params := rfl
@[simp] theorem State.addCycles_sched (s : State) (n : Nat) : (s.addCycles n).sched = { s.sched with acc := s.sched.acc + n } := rfl
@[simp] theorem State.addCycles_dev (s : State) (n : Nat) : (s.addCycles n).dev = s.dev := rfl
@[simp] theorem State.addCycles_env (s : State) (n : Nat) : (s.addCycles n).env = s.env := rfl

/-! ### setMirroring -/

@[simp] theorem State.setMirroring_cpu (s : State) (m : Mirroring) : (s.setMirroring m).cpu = s.cpu := rfl
@[simp] theorem State.setMirroring_pend (s : State) (m : Mirroring) : (s.setMirroring m).pend = s.pend := rfl
@[simp] theorem State.setMirroring_mem (s : State) (m : Mirroring) : (s.setMirroring m).mem = s.mem := rfl
@[simp] theorem State.setMirroring_nt0 (s : State) (m : Mirroring) : (s.setMirroring m).nt0 = s.nt0 := rfl
@[simp] theorem State.setMirroring_nt1 (s : State) (m : Mirroring) : (s.setMirroring m).nt1 = s.nt1 := rfl
@[simp] theorem State.setMirroring_mirror (s : State) (m : Mirroring) : (s.setMirroring m).mirror = m := rfl
@[simp] theorem State.setMirroring_pads (s : State) (m : Mirroring) : (s.setMirroring m).pads = s.pads := rfl
@[simp] theorem State.setMirroring_mapper (s : State) (m : Mirroring) : (s.setMirroring m).mapper = s.mapper := rfl
@[simp] theorem State.setMirroring_cart (s : State) (m : Mirroring) : (s.setMirroring m).cart = s.cart := rfl
@[simp] theorem State.setMirroring_chr (s : State) (m : Mirroring) : (s.setMirroring m).chr = s.chr := rfl
@[simp] theorem State.setMirroring_params (s : State) (m : Mirroring) : (s.setMirroring m).params = s.params := rfl
@[simp] theorem State.setMirroring_sched (s : State) (m : Mirroring) : (s.setMirroring m).sched = s.sched := rfl
@[simp] theorem State.setMirroring_dev (s : State) (m : Mirroring) : (s.setMirroring m).dev = s.dev := rfl
@[simp] theorem State.setMirroring_env (s : State) (m : Mirroring) : (s.setMirroring m).env = s.env := rfl

/-! ### record -/

@[simp] theorem State.record_cpu (s : State) (e : Event) : (s.record e).cpu = s.cpu := rfl
@[simp] theorem State.record_pend (s : State) (e : Event) : (s.record e).pend = s.pend := rfl
@[simp] theorem State.record_mem (s : State) (e : Event) : (s.record e).mem = s.mem := rfl
@[simp] theorem State.record_nt0 (s : State) (e : Event) : (s.record e).nt0 = s.nt0 := rfl
@[simp] theorem State.record_nt1 (s : State) (e : Event) : (s.record e).nt1 = s.nt1 := rfl
@[simp] theorem State.record_mirror (s : State) (e : Event) : (s.record e).mirror = s.mirror := rfl
@[simp] theorem State.record_pads (s : State) (e : Event) : (s.record e).pads = s.pads := rfl
@[simp] theorem State.record_mapper (s : State) (e : Event) : (s.record e).mapper = s.mapper := rfl
@[simp] theorem State.record_cart (s : State) (e : Event) : (s.record e).cart = s.cart := rfl
@[simp] theorem State.record_chr (s : State) (e : Event) : (s.record e).chr = s.chr := rfl
@[simp] theorem State.record_params (s : State) (e : Event) : (s.record e).params = s.params := rfl
@[simp] theorem State.record_sched (s : State) (e : Event) : (s.record e).sched = s.sched := rfl
@[simp] theorem State.record_dev (s : State) (e : Event) : (s.record e).dev = { s.dev with history := { s.dev.history with events := e :: s.dev.history.events } } := rfl
@[simp] theorem State.record_env (s : State) (e : Event) : (s.record e).env = s.env := rfl

/-! ### touchPpu -/

@[simp] theorem State.touchPpu_cpu (s : State) : (s.touchPpu).cpu = s.cpu := rfl
@[simp] theorem State.touchPpu_pend (s : State) : (s.touchPpu).pend = s.pend := rfl
@[simp] theorem State.touchPpu_mem (s : State) : (s.touchPpu).mem = s.mem := rfl
@[simp] theorem State.touchPpu_nt0 (s : State) : (s.touchPpu).nt0 = s.nt0 := rfl
@[simp] theorem State.touchPpu_nt1 (s : State) : (s.touchPpu).nt1 = s.nt1 := rfl
@[simp] theorem State.touchPpu_mirror (s : State) : (s.touchPpu).mirror = s.mirror := rfl
@[simp] theorem State.touchPpu_pads (s : State) : (s.touchPpu).pads = s.pads := rfl
@[simp] theorem State.touchPpu_mapper (s : State) : (s.touchPpu).mapper = s.mapper := rfl
@[simp] theorem State.touchPpu_cart (s : State) : (s.touchPpu).cart = s.cart := rfl
@[simp] theorem State.touchPpu_chr (s : State) : (s.touchPpu).chr = s.chr := rfl
@[simp] theorem State.touchPpu_params (s : State) : (s.touchPpu).params = s.params := rfl
@[simp] theorem State.touchPpu_sched (s : State) : (s.touchPpu).sched = s.sched := rfl
@[simp] theorem State.touchPpu_dev (s : State) : (s.touchPpu).dev = { s.dev with ppuTouched := true } := rfl
@[simp] theorem State.touchPpu_env (s : State) : (s.touchPpu).env = s.env := rfl

/-! ### mapperWrite -/

@[simp] theorem State.mapperWrite_cpu (s : State) (a : Addr) (v : Byte) : (s.mapperWrite a v).cpu = s.cpu := rfl
@[simp] theorem State.mapperWrite_pend (s : State) (a : Addr) (v : Byte) : (s.mapperWrite a v).pend = s.pend := rfl
@[simp] theorem State.mapperWrite_mem (s : State) (a : Addr) (v : Byte) : (s.mapperWrite a v).mem = s.mem := rfl
@[simp] theorem State.mapperWrite_nt0 (s : State) (a : Addr) (v : Byte) : (s.mapperWrite a v).nt0 = s.nt0 := rfl
@[simp] theorem State.mapperWrite_nt1 (s : State) (a : Addr) (v : Byte) : (s.mapperWrite a v).nt1 = s.nt1 := rfl
@[simp] theorem State.mapperWrite_mirror (s : State) (a : Addr) (v : Byte) : (s.mapperWrite a v).mirror = (s.mapper.write s.params s.cart.chr8 v a).2.getD s.mirror := rfl
@[simp] theorem State.mapperWrite_pads (s : State) (a : Addr) (v : Byte) : (s.mapperWrite a v).pads = s.pads := rfl
@[simp] theorem State.mapperWrite_mapper (s : State) (a : Addr) (v : Byte) : (s.mapperWrite a v).mapper = (s.mapper.write s.params s.cart.chr8 v a).1 := rfl
@[simp] theorem State.mapperWrite_cart (s : State) (a : Addr) (v : Byte) : (s.mapperWrite a v).cart = s.cart := rfl
@[simp] theorem State.mapperWrite_chr (s : State) (a : Addr) (v : Byte) : (s.mapperWrite a v).chr = s.chr := rfl
@[simp] theorem State.mapperWrite_params (s : State) (a : Addr) (v : Byte) : (s.mapperWrite a v).params = s.params := rfl
@[simp] theorem State.mapperWrite_sched (s : State) (a : Addr) (v : Byte) : (s.mapperWrite a v).sched = s.sched := rfl
@[simp] theorem State.mapperWrite_dev (s : State) (a : Addr) (v : Byte) : (s.mapperWrite a v).dev = s.dev := rfl
@[simp] theorem State.mapperWrite_env (s : State) (a : Addr) (v : Byte) : (s.mapperWrite a v).env = s.env := rfl

end Sys2Proof.Machine
end

