-- ==== Sys2Proof/Laws/Bus.lean ====
section
/-! SUPPORT. What a bus access can do: the region of an address, what a read and a write leave unchanged, and the
accesses to the zero page, the stack page and the vectors, which have no side effect. -/

namespace Sys2Proof.Machine

/-! ## Regions -/

theorem busRegion_ram {a : Addr} (h : a.toNat < 0x2000) : busRegion a = .ram (a.toNat % 0x0800) := by
  unfold busRegion
  simp only
  rw [if_neg (by omega), if_neg (by omega), if_neg (by omega), if_neg (by omega), if_neg (by omega), if_neg (by omega),
    if_pos h]

theorem busRegion_plain {a : Addr} (h : 0x4020 ≤ a.toNat) (h' : a.toNat < 0x8000) :
    busRegion a = .plain a.toNat := by
  unfold busRegion
  simp only
  rw [if_neg (by omega), if_neg (by omega), if_neg (by omega), if_neg (by omega), if_neg (by omega), if_neg (by omega),
    if_neg (by omega)]

theorem busRegion_cartridge {a : Addr} (h : 0x8000 ≤ a.toNat) : busRegion a = .cartridge := by
  unfold busRegion
  simp only
  rw [if_neg (by omega), if_neg (by omega), if_neg (by omega), if_neg (by omega), if_neg (by omega), if_pos h]

theorem busRegion_ppuReg {a : Addr} (h : 0x2000 ≤ a.toNat) (h' : a.toNat ≤ 0x3FFF) :
    busRegion a = .ppuReg (a.toNat % 8) := by
  unfold busRegion
  simp only
  rw [if_pos ⟨h, h'⟩]

/-- An address of internal RAM, of plain storage or of the cartridge range leads to its own key. -/
theorem ram_of_busRegion {a : Addr} {off : Nat} (h : busRegion a = .ram off) : off < 0x0800 := by
  unfold busRegion at h
  simp only at h
  split at h <;> [simp at h; skip]
  repeat' (split at h <;> [simp at h; skip])
  all_goals try simp at h
  all_goals omega

theorem plain_of_busRegion {a : Addr} {k : Nat} (h : busRegion a = .plain k) : 0x4020 ≤ k ∧ k < 0x8000 := by
  unfold busRegion at h
  simp only at h
  repeat' (split at h <;> [simp at h; skip])
  all_goals try simp at h
  all_goals omega

@[simp] theorem zeroPage_toNat (z : Byte) : (zeroPage z).toNat = z.toNat := by
  simp [zeroPage, BitVec.toNat_setWidth]
  omega

@[simp] theorem stackAddr_toNat (sp : Byte) : (stackAddr sp).toNat = 0x0100 + sp.toNat := by
  simp [stackAddr, BitVec.toNat_add, BitVec.toNat_setWidth]
  omega

@[simp] theorem busRegion_zeroPage (z : Byte) : busRegion (zeroPage z) = .ram z.toNat := by
  rw [busRegion_ram (by simp; omega)]
  simp
  omega

@[simp] theorem busRegion_stackAddr (sp : Byte) : busRegion (stackAddr sp) = .ram (0x0100 + sp.toNat) := by
  rw [busRegion_ram (by simp; omega)]
  simp
  omega

/-! ## What a read leaves unchanged -/

@[simp] theorem State.busRead_fst (a : Addr) (s : State) : (s.busRead a).1 = s.busValue a := rfl

@[simp] theorem State.busRead_snd (a : Addr) (s : State) : (s.busRead a).2 = s.busReadEffect a := rfl

@[simp] theorem State.busReadEffect_cpu (a : Addr) (s : State) : (s.busReadEffect a).cpu = s.cpu := by
  unfold State.busReadEffect; split <;> rfl

@[simp] theorem State.busReadEffect_pend (a : Addr) (s : State) : (s.busReadEffect a).pend = s.pend := by
  unfold State.busReadEffect; split <;> rfl

@[simp] theorem State.busReadEffect_mem (a : Addr) (s : State) : (s.busReadEffect a).mem = s.mem := by
  unfold State.busReadEffect; split <;> rfl

@[simp] theorem State.busReadEffect_nt0 (a : Addr) (s : State) : (s.busReadEffect a).nt0 = s.nt0 := by
  unfold State.busReadEffect; split <;> rfl

@[simp] theorem State.busReadEffect_nt1 (a : Addr) (s : State) : (s.busReadEffect a).nt1 = s.nt1 := by
  unfold State.busReadEffect; split <;> rfl

@[simp] theorem State.busReadEffect_mirror (a : Addr) (s : State) : (s.busReadEffect a).mirror = s.mirror := by
  unfold State.busReadEffect; split <;> rfl

@[simp] theorem State.busReadEffect_mapper (a : Addr) (s : State) : (s.busReadEffect a).mapper = s.mapper := by
  unfold State.busReadEffect; split <;> rfl

@[simp] theorem State.busReadEffect_cart (a : Addr) (s : State) : (s.busReadEffect a).cart = s.cart := by
  unfold State.busReadEffect; split <;> rfl

@[simp] theorem State.busReadEffect_chr (a : Addr) (s : State) : (s.busReadEffect a).chr = s.chr := by
  unfold State.busReadEffect; split <;> rfl

@[simp] theorem State.busReadEffect_params (a : Addr) (s : State) : (s.busReadEffect a).params = s.params := by
  unfold State.busReadEffect; split <;> rfl

@[simp] theorem State.busReadEffect_sched (a : Addr) (s : State) : (s.busReadEffect a).sched = s.sched := by
  unfold State.busReadEffect; split <;> rfl

@[simp] theorem State.busReadEffect_env (a : Addr) (s : State) : (s.busReadEffect a).env = s.env := by
  unfold State.busReadEffect; split <;> rfl

@[simp] theorem State.busReadEffect_ppuSteps (a : Addr) (s : State) :
    (s.busReadEffect a).dev.history.ppuSteps = s.dev.history.ppuSteps := by
  unfold State.busReadEffect; split <;> rfl

/-- A read of storage or of the cartridge range changes nothing (R56, R67). -/
theorem State.busReadEffect_of_peek {a : Addr} {s : State} {v : Byte} (h : s.peek a = some v) :
    s.busReadEffect a = s := by
  unfold State.peek at h
  unfold State.busReadEffect
  split <;> simp_all

/-- A read of storage or of the cartridge range answers the byte held there (R56). -/
theorem State.busValue_of_peek {a : Addr} {s : State} {v : Byte} (h : s.peek a = some v) : s.busValue a = v := by
  unfold State.peek at h
  unfold State.busValue
  split <;> simp_all

/-- A read leaves the byte of every address as it was. -/
@[simp] theorem State.peek_busReadEffect (a b : Addr) (s : State) : (s.busReadEffect a).peek b = s.peek b := by
  unfold State.peek; split <;> simp

@[simp] theorem State.busReadEffect_zeroPage (z : Byte) (s : State) : s.busReadEffect (zeroPage z) = s := by
  simp [State.busReadEffect]

@[simp] theorem State.busValue_zeroPage (z : Byte) (s : State) : s.busValue (zeroPage z) = s.mem.read z.toNat := by
  simp [State.busValue]

@[simp] theorem State.busReadEffect_stackAddr (sp : Byte) (s : State) : s.busReadEffect (stackAddr sp) = s := by
  simp [State.busReadEffect]

@[simp] theorem State.busValue_stackAddr (sp : Byte) (s : State) :
    s.busValue (stackAddr sp) = s.mem.read (0x0100 + sp.toNat) := by
  simp [State.busValue]

/-- The value a read answers does not depend on the processor's registers. -/
theorem State.busValue_congr {s t : State} (a : Addr) (hm : s.mem = t.mem) (hc : s.cart = t.cart)
    (hr : s.mapper = t.mapper) (hp : s.pads = t.pads) (hd : s.dev = t.dev) : s.busValue a = t.busValue a := by
  unfold State.busValue; split <;> simp [*]

/-! ## What a write leaves unchanged -/

@[simp] theorem State.busWrite_cpu (a : Addr) (v : Byte) (s : State) : (s.busWrite a v).cpu = s.cpu := by
  unfold State.busWrite; split <;> rfl

@[simp] theorem State.busWrite_pend (a : Addr) (v : Byte) (s : State) : (s.busWrite a v).pend = s.pend := by
  unfold State.busWrite; split <;> rfl

@[simp] theorem State.busWrite_nt0 (a : Addr) (v : Byte) (s : State) : (s.busWrite a v).nt0 = s.nt0 := by
  unfold State.busWrite; split <;> rfl

@[simp] theorem State.busWrite_nt1 (a : Addr) (v : Byte) (s : State) : (s.busWrite a v).nt1 = s.nt1 := by
  unfold State.busWrite; split <;> rfl

@[simp] theorem State.busWrite_cart (a : Addr) (v : Byte) (s : State) : (s.busWrite a v).cart = s.cart := by
  unfold State.busWrite; split <;> rfl

@[simp] theorem State.busWrite_chr (a : Addr) (v : Byte) (s : State) : (s.busWrite a v).chr = s.chr := by
  unfold State.busWrite; split <;> rfl

@[simp] theorem State.busWrite_params (a : Addr) (v : Byte) (s : State) : (s.busWrite a v).params = s.params := by
  unfold State.busWrite; split <;> rfl

@[simp] theorem State.busWrite_env (a : Addr) (v : Byte) (s : State) : (s.busWrite a v).env = s.env := by
  unfold State.busWrite; split <;> rfl

@[simp] theorem State.busWrite_stop (a : Addr) (v : Byte) (s : State) :
    (s.busWrite a v).sched.stop = s.sched.stop := by
  unfold State.busWrite; split <;> rfl

@[simp] theorem State.busWrite_atTop (a : Addr) (v : Byte) (s : State) :
    (s.busWrite a v).sched.atTop = s.sched.atTop := by
  unfold State.busWrite; split <;> rfl

@[simp] theorem State.busWrite_ppuSteps (a : Addr) (v : Byte) (s : State) :
    (s.busWrite a v).dev.history.ppuSteps = s.dev.history.ppuSteps := by
  unfold State.busWrite; split <;> rfl

/-- A write adds OAM_DMA_STALL to the accumulator exactly when it goes to 0x4014 (R60, R124). -/
theorem State.busWrite_acc (a : Addr) (v : Byte) (s : State) :
    (s.busWrite a v).sched.acc = s.sched.acc + (if busRegion a = .oamDma then Config.oamDmaStall else 0) := by
  unfold State.busWrite; split <;> simp_all

/-- A write to the stack page sets one byte of internal RAM. -/
@[simp] theorem State.busWrite_stackAddr (sp v : Byte) (s : State) :
    s.busWrite (stackAddr sp) v = { s with mem := s.mem.write (0x0100 + sp.toNat) v } := by
  simp [State.busWrite]

/-! ## The stack -/

/-- A push: one byte of page 1 and the stack pointer. -/
theorem State.push8_eq (v : Byte) (s : State) :
    s.push8 v = { s with mem := s.mem.write (0x0100 + s.cpu.sp.toNat) v, cpu := { s.cpu with sp := s.cpu.sp - 1#8 } } := by
  simp [State.push8, State.setSp]

/-- The byte a pull answers. -/
@[simp] theorem State.pull8_fst (s : State) : s.pull8.1 = s.mem.read (0x0100 + (s.cpu.sp + 1#8).toNat) := by
  simp [State.pull8]

/-- A pull changes the stack pointer alone. -/
@[simp] theorem State.pull8_snd (s : State) : s.pull8.2 = s.setSp (s.cpu.sp + 1#8) := by
  simp [State.pull8]

/-! ## Pointers and vectors -/

/-- A zero-page pointer read changes nothing. -/
@[simp] theorem State.busRead16ZeroPage_snd (p : Byte) (s : State) : (s.busRead16ZeroPage p).2 = s := by
  simp [State.busRead16ZeroPage]

/-- A zero-page pointer: the high byte from `(p + 1) mod 256` (R114, R115). -/
@[simp] theorem State.busRead16ZeroPage_fst (p : Byte) (s : State) :
    (s.busRead16ZeroPage p).1 = joinBytes (s.mem.read (p + 1#8).toNat) (s.mem.read p.toNat) := by
  simp [State.busRead16ZeroPage]

/-- A 16-bit read in the cartridge range changes nothing and answers two PRG bytes, low byte first (R70, R74). -/
theorem State.busRead16_cartridge {a : Addr} (s : State) (h : 0x8000 ≤ a.toNat) (h' : 0x8000 ≤ (a + 1#16).toNat) :
    s.busRead16 a = (joinBytes (mapperRead s.cart s.mapper (a + 1#16)) (mapperRead s.cart s.mapper a), s) := by
  simp [State.busRead16, State.busReadEffect, State.busValue, busRegion_cartridge h, busRegion_cartridge h']

@[simp] theorem eaZp_st (z : Byte) (s : State) : (eaZp z s).st = s := by simp [eaZp]

@[simp] theorem eaZpx_st (z : Byte) (s : State) : (eaZpx z s).st = s := by simp [eaZpx]

@[simp] theorem eaZpy_st (z : Byte) (s : State) : (eaZpy z s).st = s := by simp [eaZpy]

@[simp] theorem eaIzx_st (z : Byte) (s : State) : (eaIzx z s).st = s := by simp [eaIzx]

@[simp] theorem eaIzy_st (z : Byte) (s : State) : (eaIzy z s).st = s := by simp [eaIzy]

@[simp] theorem eaAbs_st (w : Addr) (s : State) : (eaAbs w s).st = s := rfl

@[simp] theorem eaAbsx_st (w : Addr) (s : State) : (eaAbsx w s).st = s := rfl

@[simp] theorem eaAbsy_st (w : Addr) (s : State) : (eaAbsy w s).st = s := rfl

end Sys2Proof.Machine
end

