-- ==== Sys2Proof/Laws/Exec.lean ====
section
/-! SUPPORT. What `exec` answers, said once for each shape of instruction: a read, a store, a read-modify-write, a form
without a memory operand, a branch. Later proofs cite these instead of unfolding the meanings. -/

namespace Sys2Proof.Machine

/-- The effect on the registers of an instruction that reads one byte. -/
def readEffect : Mnemonic → Option (Byte → Cpu → Cpu)
  | .LDA => some Cpu.lda
  | .LDX => some Cpu.ldx
  | .LDY => some Cpu.ldy
  | .ADC => some Cpu.adc
  | .SBC => some Cpu.sbc
  | .AND => some Cpu.and
  | .ORA => some Cpu.ora
  | .EOR => some Cpu.eor
  | .CMP => some Cpu.cmp
  | .CPX => some Cpu.cpx
  | .CPY => some Cpu.cpy
  | .BIT => some Cpu.bit
  | _ => none

/-- The register an instruction stores. -/
def storedRegister : Mnemonic → Option (Cpu → Byte)
  | .STA => some Cpu.a
  | .STX => some Cpu.x
  | .STY => some Cpu.y
  | _ => none

/-- The effect on the byte and the flags of a read-modify-write instruction. -/
def modifyEffect : Mnemonic → Option (Byte → Flags → Byte × Flags)
  | .INC => some incByte
  | .DEC => some decByte
  | .ASL => some aslByte
  | .LSR => some lsrByte
  | .ROL => some rolByte
  | .ROR => some rorByte
  | _ => none

/-- The effect on the registers of an implied instruction that makes no bus access. -/
def registerEffect : Mnemonic → Option (Cpu → Cpu)
  | .TAX => some Cpu.tax
  | .TAY => some Cpu.tay
  | .TXA => some Cpu.txa
  | .TYA => some Cpu.tya
  | .TSX => some Cpu.tsx
  | .TXS => some Cpu.txs
  | .INX => some Cpu.inx
  | .INY => some Cpu.iny
  | .DEX => some Cpu.dex
  | .DEY => some Cpu.dey
  | .CLC => some Cpu.clc
  | .SEC => some Cpu.sec
  | .CLI => some Cpu.cli
  | .SEI => some Cpu.sei
  | .CLD => some Cpu.cld
  | .SED => some Cpu.sed
  | .CLV => some Cpu.clv
  | .NOP => some id
  | _ => none

theorem exec_read {i : Instr} {f : Byte → Cpu → Cpu} (h : readEffect i.mnemonic = some f) (s : State) :
    exec i s = .next (((dataRead i s).2.mapCpu (f (dataRead i s).1)).addCycles (cycleCost i s)) := by
  cases i <;> simp only [Instr.mnemonic, Instr.asm, readEffect, reduceCtorEq] at h
  all_goals cases h
  all_goals simp only [cycleCost, branchTaken, Instr.mnemonic, Instr.asm, Instr.mode, baseCycles, pagePenalty, dataRead,
    Instr.operand, ea, resolveMode, BitVec.ofNat_toNat, BitVec.setWidth_eq]
  all_goals rfl

theorem exec_store {i : Instr} {f : Cpu → Byte} (h : storedRegister i.mnemonic = some f) (s : State) :
    exec i s = .next (((ea i s).st.busWrite (ea i s).addr (f s.cpu)).addCycles (cycleCost i s)) := by
  cases i <;> simp only [Instr.mnemonic, Instr.asm, storedRegister, reduceCtorEq] at h
  all_goals cases h
  all_goals simp only [cycleCost, branchTaken, Instr.mnemonic, Instr.asm, Instr.mode, baseCycles, pagePenalty,
    Instr.operand, ea, resolveMode, BitVec.ofNat_toNat, BitVec.setWidth_eq]
  all_goals rfl

theorem exec_modify {i : Instr} {f : Byte → Flags → Byte × Flags} (h : modifyEffect i.mnemonic = some f)
    (hm : i.mode ≠ .ACC) (s : State) :
    exec i s = .next ((((dataRead i s).2.busWrite (ea i s).addr (f (dataRead i s).1 (dataRead i s).2.cpu.f).1).mapFlags
      fun _ => (f (dataRead i s).1 (dataRead i s).2.cpu.f).2).addCycles (cycleCost i s)) := by
  cases i <;> simp only [Instr.mnemonic, Instr.asm, modifyEffect, reduceCtorEq] at h
  all_goals first | (exfalso; exact hm rfl) | skip
  all_goals cases h
  all_goals simp only [cycleCost, branchTaken, Instr.mnemonic, Instr.asm, Instr.mode, baseCycles, pagePenalty,
    Instr.operand, ea, resolveMode, dataRead, BitVec.ofNat_toNat, BitVec.setWidth_eq]
  all_goals rfl

theorem exec_accumulator {i : Instr} {f : Byte → Flags → Byte × Flags} (h : modifyEffect i.mnemonic = some f)
    (hm : i.mode = .ACC) (s : State) :
    exec i s = .next ((s.mapCpu fun c => { c with a := (f s.cpu.a s.cpu.f).1, f := (f s.cpu.a s.cpu.f).2 }).addCycles
      (cycleCost i s)) := by
  cases i <;> simp only [Instr.mnemonic, Instr.asm, modifyEffect, reduceCtorEq] at h
  all_goals first | (cases hm; done) | skip
  all_goals cases h
  all_goals rfl

theorem exec_register {i : Instr} {f : Cpu → Cpu} (h : registerEffect i.mnemonic = some f) (s : State) :
    exec i s = .next ((s.mapCpu f).addCycles (cycleCost i s)) := by
  cases i <;> simp only [Instr.mnemonic, Instr.asm, registerEffect, reduceCtorEq] at h
  all_goals cases h
  all_goals rfl

/-- A branch sets PC to its target when its condition holds, and does nothing else. -/
theorem exec_branch {i : Instr} (h : i.mode = .REL) (s : State) :
    exec i s = .next ((if branchTaken i s.cpu.f then s.setPc (ea i s).addr else s).addCycles (cycleCost i s)) := by
  cases i <;> simp only [Instr.mode, Instr.asm, reduceCtorEq] at h
  all_goals
    simp only [exec, execBcc, execBcs, execBeq, execBne, execBmi, execBpl, execBvc, execBvs, branchOp, cycleCost,
      branchTaken, Instr.mnemonic, Instr.asm, Instr.mode, baseCycles, pagePenalty, Instr.operand, ea, resolveMode,
      BitVec.ofNat_toNat, BitVec.setWidth_eq, bitNat]
    by_cases hp : highByte (relTarget ‹Byte› s) = highByte s.cpu.pc <;> split <;> simp_all

/-! ### The forms that are no instance of a shape -/

theorem exec_jmpAbs (w : Addr) (s : State) : exec (.jmpAbs w) s = .next ((s.setPc w).addCycles 3) := rfl

theorem exec_jmpInd (w : Addr) (s : State) :
    exec (.jmpInd w) s = .next (((eaInd w s).st.setPc (eaInd w s).addr).addCycles 5) := rfl

theorem exec_jsr (w : Addr) (s : State) :
    exec (.jsr w) s = .next (((s.push16 (s.cpu.pc - 1#16)).setPc w).addCycles 6) := rfl

theorem exec_rts (s : State) : exec .rts s = .next ((s.pull16.2.setPc (s.pull16.1 + 1#16)).addCycles 6) := rfl

theorem exec_pha (s : State) : exec .pha s = .next ((s.push8 s.cpu.a).addCycles 3) := rfl

theorem exec_php (s : State) : exec .php s = .next ((s.push8 s.cpu.f.pushedByBreak).addCycles 3) := rfl

theorem exec_pla (s : State) : exec .pla s = .next ((s.pull8.2.mapCpu (Cpu.lda s.pull8.1)).addCycles 4) := rfl

theorem exec_plp (s : State) : exec .plp s = .next ((s.pull8.2.mapFlags (Flags.setStatus s.pull8.1)).addCycles 4) := rfl

theorem exec_brk (s : State) :
    exec .brk s = .next ((s.enterTrap (s.cpu.pc + 1#16) s.cpu.f.pushedByBreak 0xFFFE#16).addCycles 7) := rfl

theorem exec_rti (s : State) : exec .rti s = .next (s.returnFromTrap.addCycles 6) := rfl

/-- Every instruction answers a next state. -/
theorem exec_completes (i : Instr) (s : State) : ∃ t, exec i s = .next t := by
  cases i <;> exact ⟨_, rfl⟩

/-- Which of the shapes an instruction has. -/
theorem instr_shape (i : Instr) :
    (∃ f, readEffect i.mnemonic = some f) ∨ (∃ f, storedRegister i.mnemonic = some f) ∨
      (∃ f, modifyEffect i.mnemonic = some f) ∨ (∃ f, registerEffect i.mnemonic = some f) ∨ i.mode = .REL ∨
      i.mnemonic ∈ [.JMP, .JSR, .RTS, .RTI, .BRK, .PHA, .PHP, .PLA, .PLP] := by
  cases i <;> simp [readEffect, storedRegister, modifyEffect, registerEffect, Instr.mnemonic, Instr.mode, Instr.asm]

end Sys2Proof.Machine
end

