-- ==== Sys2Proof/Laws/Ops.lean ====
section
/-! SUPPORT. Everything each shared operation can do, in closed form: pushes and pulls of two bytes, vectors, trap entry,
return from a trap, the interrupt entries, and what the addressing modes and the data read leave unchanged. -/

namespace Sys2Proof.Machine

/-! ## Words -/

theorem joinBytes_toNat (hi lo : Byte) : (joinBytes hi lo).toNat = hi.toNat * 256 + lo.toNat := by
  simp only [joinBytes, BitVec.toNat_append]
  rw [← Nat.shiftLeft_add_eq_or_of_lt lo.isLt, Nat.shiftLeft_eq]

@[simp] theorem joinBytes_high_low (w : Addr) : joinBytes (highByte w) (lowByte w) = w := by
  apply BitVec.eq_of_toNat_eq
  rw [joinBytes_toNat]
  simp [highByte, lowByte, BitVec.extractLsb'_toNat, Nat.shiftRight_eq_div_pow]
  omega

theorem highByte_toNat (w : Addr) : (highByte w).toNat = w.toNat / 256 := by
  simp [highByte, BitVec.extractLsb'_toNat, Nat.shiftRight_eq_div_pow]
  omega

theorem lowByte_toNat (w : Addr) : (lowByte w).toNat = w.toNat % 256 := by
  simp [lowByte, BitVec.extractLsb'_toNat]

/-! ## The stack -/

theorem State.push16_eq (w : Addr) (s : State) :
    s.push16 w = afterPushes [highByte w, lowByte w] s := by
  simp [State.push16, State.push8_eq, afterPushes]

theorem pulledByte_eq (k : Nat) (s : State) :
    pulledByte k s = s.mem.read (0x0100 + (s.cpu.sp + BitVec.ofNat 8 k).toNat) := by
  simp [pulledByte, BitVec.toNat_add]

theorem State.pull16_eq (s : State) :
    s.pull16 = (joinBytes (pulledByte 2 s) (pulledByte 1 s), s.setSp (s.cpu.sp + 2#8)) := by
  have h : s.cpu.sp + 1#8 + 1#8 = s.cpu.sp + 2#8 := by bv_omega
  simp [State.pull16, pulledByte_eq, State.setSp, h]

/-- Bytes pushed change storage and the stack pointer alone. -/
theorem afterPushes_eq (vs : List Byte) (s : State) :
    afterPushes vs s =
      { s with
        mem := (afterPushes vs s).mem, cpu := { s.cpu with sp := s.cpu.sp - BitVec.ofNat 8 vs.length } } := by
  induction vs generalizing s with
  | nil => simp [afterPushes]
  | cons v vs ih =>
    have h : s.cpu.sp - 1#8 - BitVec.ofNat 8 vs.length = s.cpu.sp - BitVec.ofNat 8 (vs.length + 1) := by
      apply BitVec.eq_of_toNat_eq
      simp [BitVec.toNat_sub]
      omega
    rw [afterPushes, ih]
    simp [h]

@[simp] theorem afterPushes_cpu (vs : List Byte) (s : State) :
    (afterPushes vs s).cpu = { s.cpu with sp := s.cpu.sp - BitVec.ofNat 8 vs.length } := by
  rw [afterPushes_eq]

@[simp] theorem afterPushes_pend (vs : List Byte) (s : State) : (afterPushes vs s).pend = s.pend := by
  rw [afterPushes_eq]

@[simp] theorem afterPushes_nt0 (vs : List Byte) (s : State) : (afterPushes vs s).nt0 = s.nt0 := by
  rw [afterPushes_eq]

@[simp] theorem afterPushes_nt1 (vs : List Byte) (s : State) : (afterPushes vs s).nt1 = s.nt1 := by
  rw [afterPushes_eq]

@[simp] theorem afterPushes_mirror (vs : List Byte) (s : State) : (afterPushes vs s).mirror = s.mirror := by
  rw [afterPushes_eq]

@[simp] theorem afterPushes_pads (vs : List Byte) (s : State) : (afterPushes vs s).pads = s.pads := by
  rw [afterPushes_eq]

@[simp] theorem afterPushes_mapper (vs : List Byte) (s : State) : (afterPushes vs s).mapper = s.mapper := by
  rw [afterPushes_eq]

@[simp] theorem afterPushes_cart (vs : List Byte) (s : State) : (afterPushes vs s).cart = s.cart := by
  rw [afterPushes_eq]

@[simp] theorem afterPushes_chr (vs : List Byte) (s : State) : (afterPushes vs s).chr = s.chr := by
  rw [afterPushes_eq]

@[simp] theorem afterPushes_params (vs : List Byte) (s : State) : (afterPushes vs s).params = s.params := by
  rw [afterPushes_eq]

@[simp] theorem afterPushes_sched (vs : List Byte) (s : State) : (afterPushes vs s).sched = s.sched := by
  rw [afterPushes_eq]

@[simp] theorem afterPushes_dev (vs : List Byte) (s : State) : (afterPushes vs s).dev = s.dev := by
  rw [afterPushes_eq]

@[simp] theorem afterPushes_env (vs : List Byte) (s : State) : (afterPushes vs s).env = s.env := by
  rw [afterPushes_eq]

/-! ## Vectors, trap entry and return -/

theorem State.busRead16_vector {a : Addr} (s : State) (h : 0x8000 ≤ a.toNat) (h' : 0x8000 ≤ (a + 1#16).toNat) :
    s.busRead16 a = (vectorAt a s, s) := State.busRead16_cartridge s h h'

/-- Trap entry: three bytes pushed, I set, PC from the vector. -/
theorem State.enterTrap_eq (ret : Addr) (status : Byte) {vector : Addr} (s : State) (h : 0x8000 ≤ vector.toNat)
    (h' : 0x8000 ≤ (vector + 1#16).toNat) :
    s.enterTrap ret status vector =
      { afterPushes [highByte ret, lowByte ret, status] s with
        cpu :=
          { (afterPushes [highByte ret, lowByte ret, status] s).cpu with
            pc := vectorAt vector s, f := { s.cpu.f with i := true } } } := by
  simp only [State.enterTrap, State.busRead16_vector _ h h']
  simp [State.push16_eq, State.push8_eq, afterPushes, State.mapFlags, State.setPc, vectorAt]

/-- Return from a trap: the status and PC from three bytes pulled. -/
theorem State.returnFromTrap_eq (s : State) :
    s.returnFromTrap =
      { s with
        cpu :=
          { s.cpu with
            sp := s.cpu.sp + 3#8, pc := joinBytes (pulledByte 3 s) (pulledByte 2 s)
            f := s.cpu.f.setStatus (pulledByte 1 s) } } := by
  have h2 : s.cpu.sp + 1#8 + 1#8 = s.cpu.sp + 2#8 := by bv_omega
  have h3 : s.cpu.sp + 1#8 + 2#8 = s.cpu.sp + 3#8 := by bv_omega
  simp [State.returnFromTrap, State.pull16_eq, pulledByte_eq, State.setSp, State.mapFlags, State.setPc, h2, h3]

/-- Reset service changes the processor's registers alone. -/
theorem State.serviceReset_eq (s : State) :
    s.serviceReset = { s with cpu := Cpu.powerOn (vectorAt 0xFFFC#16 s) } := by
  simp [State.serviceReset, State.busRead16_vector, State.setPc, vectorAt, Cpu.powerOn]

/-! ## Operands -/

@[simp] theorem resolveMode_cpu (m : Mode) (n : Nat) (s : State) : (resolveMode m n s).st.cpu = s.cpu := by
  cases m <;> simp [resolveMode, eaInd, State.busRead16Wrapped]

/-- Only the pointer read of JMP indirect can have a side effect. -/
theorem resolveMode_st {m : Mode} (h : m ≠ .IND) (n : Nat) (s : State) : (resolveMode m n s).st = s := by
  cases m <;> simp [resolveMode] at h ⊢

theorem ea_st {i : Instr} (h : i.mode ≠ .IND) (s : State) : (ea i s).st = s := resolveMode_st h _ s

@[simp] theorem dataRead_cpu (i : Instr) (s : State) : (dataRead i s).2.cpu = s.cpu := by
  unfold dataRead; split <;> simp [ea]

/-- The data read is no read, or the effect of one bus read. -/
theorem dataRead_snd {i : Instr} (h : i.mode ≠ .IND) (s : State) :
    (dataRead i s).2 = s ∨ (dataRead i s).2 = s.busReadEffect (ea i s).addr := by
  unfold dataRead
  split
  · exact .inl rfl
  · exact .inr (by simp [ea_st h])

@[simp] theorem dataRead_sched {i : Instr} (h : i.mode ≠ .IND) (s : State) : (dataRead i s).2.sched = s.sched := by
  rcases dataRead_snd h s with e | e <;> simp [e]

/-! ## The address a write of which stalls -/

theorem busRegion_oamDma (a : Addr) : busRegion a = .oamDma ↔ a = 0x4014#16 := by
  constructor
  · intro h
    unfold busRegion at h
    simp only at h
    repeat' (split at h <;> [skip; skip])
    all_goals try simp at h
    apply BitVec.eq_of_toNat_eq
    simpa using ‹a.toNat = 0x4014›
  · rintro rfl
    rfl

theorem State.busWrite_acc' (a : Addr) (v : Byte) (s : State) :
    (s.busWrite a v).sched.acc = s.sched.acc + oamStall a := by
  rw [State.busWrite_acc]
  simp [busRegion_oamDma, oamStall]

/-- A write changes the accumulator alone in the scheduler. -/
theorem State.busWrite_sched (a : Addr) (v : Byte) (s : State) :
    (s.busWrite a v).sched = { s.sched with acc := s.sched.acc + oamStall a } := by
  have h1 := State.busWrite_acc' a v s
  have h2 := State.busWrite_stop a v s
  have h3 := State.busWrite_atTop a v s
  cases h : (s.busWrite a v).sched
  simp_all

end Sys2Proof.Machine
end

