-- ==== Sys2Proof/Laws/Frame.lean ====
section
/-! SUPPORT. What every shared operation keeps: the canonical form of the stores with the ranges of the counters, the
cartridge, the parameters and the choice of mapper variant; and what the picture unit's moves leave unchanged. Later proofs
chain these by `Keeps.trans` and `PictureFrame.trans` instead of unfolding the operations. -/

namespace Sys2Proof.Machine

/-! ## What is kept -/

/-- The part of the invariant that concerns stores and counters. -/
structure StoresWf (s : State) : Prop where
  memWf : s.mem.wf = true
  memKeys : s.mem.keysIn storageKey = true
  nt0Wf : s.nt0.wf = true
  nt0Keys : s.nt0.keysIn (fun a => decide (a < 1024)) = true
  nt1Wf : s.nt1.wf = true
  nt1Keys : s.nt1.keysIn (fun a => decide (a < 1024)) = true
  prgBank : 1 ≤ s.cart.prg16
  prgWf : s.cart.prg.wf = true
  prgKeys : s.cart.prg.keysIn (fun a => decide (a < s.cart.prgLength)) = true
  chrWf : s.chr.wf = true
  chrKeys : s.chr.keysIn (fun a => decide (a < s.cart.chrLength)) = true
  rd0 : s.pads.rd0 < 24
  rd1 : s.pads.rd1 < 24
  breakClear : s.cpu.f.b = false
  mmc1Count : ∀ r, s.mapper = .mmc1 r → r.count ≤ 4

/-- From `s` to `t` the stores stay well-formed and nothing that is fixed changes. -/
structure Keeps (s t : State) : Prop where
  wf : StoresWf s → StoresWf t
  cart : t.cart = s.cart
  params : t.params = s.params
  variant : t.mapper.variant = s.mapper.variant
  chr : s.cart.chr8 ≠ 0 → t.chr = s.chr

theorem Keeps.refl (s : State) : Keeps s s := ⟨id, rfl, rfl, rfl, fun _ => rfl⟩

theorem Keeps.trans {a b c : State} (h : Keeps a b) (h' : Keeps b c) : Keeps a c :=
  ⟨h'.wf ∘ h.wf, h'.cart.trans h.cart, h'.params.trans h.params, h'.variant.trans h.variant,
    fun hc => (h'.chr (h.cart ▸ hc)).trans (h.chr hc)⟩

/-- A change of the fields the invariant of the stores does not speak of. -/
theorem Keeps.of_eq {s t : State} (hm : t.mem = s.mem) (h0 : t.nt0 = s.nt0) (h1 : t.nt1 = s.nt1) (hc : t.cart = s.cart)
    (hr : t.chr = s.chr) (hp0 : t.pads.rd0 = s.pads.rd0) (hp1 : t.pads.rd1 = s.pads.rd1)
    (hb : t.cpu.f.b = s.cpu.f.b) (hv : t.mapper = s.mapper) (hp : t.params = s.params) : Keeps s t := by
  refine ⟨fun h => ?_, hc, hp, by rw [hv], fun _ => hr⟩
  constructor <;> simp only [hm, h0, h1, hc, hr, hp0, hp1, hb, hv]
  exacts [h.memWf, h.memKeys, h.nt0Wf, h.nt0Keys, h.nt1Wf, h.nt1Keys, h.prgBank, h.prgWf, h.prgKeys, h.chrWf, h.chrKeys,
    h.rd0, h.rd1, h.breakClear, h.mmc1Count]

/-! ## The bus -/

theorem keeps_memWrite (s : State) {k : Nat} (v : Byte) (h : storageKey k = true) :
    Keeps s { s with mem := s.mem.write k v } :=
  ⟨fun c => { c with memWf := Memory.wf_write c.memWf _ _, memKeys := Memory.keysIn_write c.memKeys h _ }, rfl, rfl, rfl,
    fun _ => rfl⟩

theorem Pads.advance_lt (pad2 : Bool) {p : Pads} (h0 : p.rd0 < 24) (h1 : p.rd1 < 24) :
    (p.advance pad2).rd0 < 24 ∧ (p.advance pad2).rd1 < 24 := by
  cases pad2
  · exact ⟨Nat.mod_lt _ (by decide), h1⟩
  · exact ⟨h0, Nat.mod_lt _ (by decide)⟩

theorem keeps_read (a : Addr) (s : State) : Keeps s (s.busReadEffect a) := by
  unfold State.busReadEffect
  split
  all_goals first | exact Keeps.refl _ | exact Keeps.of_eq rfl rfl rfl rfl rfl rfl rfl rfl rfl rfl | skip
  exact ⟨fun c => { c with rd0 := (Pads.advance_lt _ c.rd0 c.rd1).1, rd1 := (Pads.advance_lt _ c.rd0 c.rd1).2 }, rfl, rfl,
    rfl, fun _ => rfl⟩

theorem Mmc1.write_count (chr8 : Nat) (v : Byte) (a : Addr) {r : Mmc1} (h : r.count ≤ 4) :
    (r.write chr8 v a).1.count ≤ 4 := by
  unfold Mmc1.write
  simp only
  repeat' split
  all_goals simp
  omega

theorem MapperState.write_variant (p : Params) (chr8 : Nat) (v : Byte) (a : Addr) (m : MapperState) :
    (m.write p chr8 v a).1.variant = m.variant := by
  cases m <;> rfl

theorem keeps_mapperWrite (a : Addr) (v : Byte) (s : State) : Keeps s (s.mapperWrite a v) := by
  refine ⟨fun c => { c with mmc1Count := ?_ }, rfl, rfl, MapperState.write_variant .., fun _ => rfl⟩
  intro r
  unfold State.mapperWrite
  cases hm : s.mapper <;> simp only [MapperState.write] <;> intro h <;> cases h
  exact Mmc1.write_count _ _ _ (c.mmc1Count _ hm)

theorem keeps_write (a : Addr) (v : Byte) (s : State) : Keeps s (s.busWrite a v) := by
  unfold State.busWrite
  split
  · exact keeps_memWrite _ _ (by simp [storageKey, ram_of_busRegion ‹_›])
  · exact keeps_memWrite _ _ (by simp [storageKey, plain_of_busRegion ‹_›])
  · exact keeps_mapperWrite _ _ _
  · exact Keeps.of_eq rfl rfl rfl rfl rfl rfl rfl rfl rfl rfl
  · exact Keeps.of_eq rfl rfl rfl rfl rfl rfl rfl rfl rfl rfl
  · exact Keeps.of_eq rfl rfl rfl rfl rfl rfl rfl rfl rfl rfl
  · refine ⟨fun c => { c with rd0 := ?_, rd1 := ?_ }, rfl, rfl, rfl, fun _ => rfl⟩ <;>
      simp only [Pads.strobeWrite] <;> split <;> first | exact c.rd0 | exact c.rd1 | simp

theorem keeps_pushes (vs : List Byte) (s : State) : Keeps s (afterPushes vs s) := by
  induction vs generalizing s with
  | nil => exact Keeps.refl _
  | cons v vs ih =>
    have hk : storageKey (0x0100 + s.cpu.sp.toNat) = true := by simp [storageKey]; omega
    refine (keeps_memWrite s v hk).trans (Keeps.trans ?_ (ih _))
    exact Keeps.of_eq rfl rfl rfl rfl rfl rfl rfl rfl rfl rfl

/-! ## Registers, operands, trap entry -/

theorem keeps_mapCpu (s : State) (f : Cpu → Cpu) (h : (f s.cpu).f.b = s.cpu.f.b) : Keeps s (s.mapCpu f) :=
  Keeps.of_eq rfl rfl rfl rfl rfl rfl rfl h rfl rfl

theorem keeps_addCycles (n : Nat) (s : State) : Keeps s (s.addCycles n) :=
  Keeps.of_eq rfl rfl rfl rfl rfl rfl rfl rfl rfl rfl

theorem keeps_setPc (pc : Addr) (s : State) : Keeps s (s.setPc pc) :=
  Keeps.of_eq rfl rfl rfl rfl rfl rfl rfl rfl rfl rfl

theorem keeps_setSp (sp : Byte) (s : State) : Keeps s (s.setSp sp) :=
  Keeps.of_eq rfl rfl rfl rfl rfl rfl rfl rfl rfl rfl

theorem keeps_resolveMode (m : Mode) (n : Nat) (s : State) : Keeps s (resolveMode m n s).st := by
  by_cases h : m = .IND
  · subst h
    exact (keeps_read _ _).trans (keeps_read _ _)
  · rw [resolveMode_st h]
    exact Keeps.refl _

theorem keeps_dataRead (i : Instr) (s : State) : Keeps s (dataRead i s).2 := by
  unfold dataRead
  split
  · exact Keeps.refl _
  · exact (keeps_resolveMode _ _ _).trans (keeps_read _ _)

theorem keeps_enterTrap (ret : Addr) (status : Byte) {vector : Addr} (s : State) (h : 0x8000 ≤ vector.toNat)
    (h' : 0x8000 ≤ (vector + 1#16).toNat) : Keeps s (s.enterTrap ret status vector) := by
  rw [State.enterTrap_eq _ _ _ h h']
  exact (keeps_pushes [highByte ret, lowByte ret, status] s).trans
    (Keeps.of_eq rfl rfl rfl rfl rfl rfl rfl (by simp) rfl rfl)

theorem keeps_returnFromTrap (s : State) : Keeps s s.returnFromTrap := by
  rw [State.returnFromTrap_eq]
  exact Keeps.of_eq rfl rfl rfl rfl rfl rfl rfl rfl rfl rfl

/-! ## The external agents' moves -/

theorem keeps_ppuCall (c : PpuCall) (s : State) : Keeps s (s.ppuCall c) := by
  cases c with
  | writeVram a v =>
    refine Keeps.trans (b := s.writeVram a v) ?_ (Keeps.of_eq rfl rfl rfl rfl rfl rfl rfl rfl rfl rfl)
    unfold State.writeVram
    split
    · refine ⟨fun c => { c with
        chrWf := Memory.wf_write c.chrWf _ _, chrKeys := Memory.keysIn_write c.chrKeys ?_ _ }, rfl, rfl, rfl,
        fun h => absurd ‹_› h⟩
      simp only [Cart.chrLength, if_pos ‹s.cart.chr8 = 0›, decide_eq_true_eq]
      exact a.isLt
    · exact Keeps.refl _
  | ntWrite r v =>
    refine Keeps.trans (b := s.ntWrite r v) ?_ (Keeps.of_eq rfl rfl rfl rfl rfl rfl rfl rfl rfl rfl)
    have hr : decide (ntOffset r < 1024) = true := decide_eq_true (Nat.mod_lt _ (by decide))
    unfold State.ntWrite
    split
    · exact ⟨fun c => { c with
        nt1Wf := Memory.wf_write c.nt1Wf _ _, nt1Keys := Memory.keysIn_write c.nt1Keys hr _ }, rfl, rfl, rfl, fun _ => rfl⟩
    · exact ⟨fun c => { c with
        nt0Wf := Memory.wf_write c.nt0Wf _ _, nt0Keys := Memory.keysIn_write c.nt0Keys hr _ }, rfl, rfl, rfl, fun _ => rfl⟩
  | _ => exact Keeps.of_eq rfl rfl rfl rfl rfl rfl rfl rfl rfl rfl

theorem keeps_hook (a : Addr) (s : State) : Keeps s (s.hook a) := by
  unfold State.hook
  split
  · exact ⟨fun c => { c with mmc1Count := fun _ h => by cases h }, rfl, rfl, by rw [‹s.mapper = _›]; rfl, fun _ => rfl⟩
  · exact ⟨fun c => { c with mmc1Count := fun _ h => by cases h }, rfl, rfl, by rw [‹s.mapper = _›]; rfl, fun _ => rfl⟩
  · exact Keeps.refl _

theorem keeps_boundaryCall (c : BoundaryCall) (s : State) : Keeps s (s.boundaryCall c) := by
  cases c <;> exact Keeps.of_eq rfl rfl rfl rfl rfl rfl rfl rfl rfl rfl

/-! ## What the picture unit leaves unchanged -/

/-- From `m` to `m'` nothing changes but what hooks write: the MMC2's latches, the MMC3's counter and reload mark (R303,
R309). -/
def HookMoves (m m' : MapperState) : Prop :=
  match m with
  | .mmc2 r => ∃ l0 l1, m' = .mmc2 { r with latch0 := l0, latch1 := l1 }
  | .mmc3 r => ∃ counter reload, m' = .mmc3 { r with irqCounter := counter, irqReload := reload }
  | m => m' = m

theorem HookMoves.refl (m : MapperState) : HookMoves m m := by
  cases m <;> first | exact rfl | exact ⟨_, _, rfl⟩

theorem HookMoves.trans {a b c : MapperState} (h : HookMoves a b) (h' : HookMoves b c) : HookMoves a c := by
  cases a with
  | mmc2 r =>
    obtain ⟨_, _, rfl⟩ := h
    obtain ⟨_, _, rfl⟩ := h'
    exact ⟨_, _, rfl⟩
  | mmc3 r =>
    obtain ⟨_, _, rfl⟩ := h
    obtain ⟨_, _, rfl⟩ := h'
    exact ⟨_, _, rfl⟩
  | _ =>
    cases h
    exact h'

theorem Mmc2.hook_moves (a : Addr) (r : Mmc2) : ∃ l0 l1, r.hook a = { r with latch0 := l0, latch1 := l1 } := by
  unfold Mmc2.hook
  split <;> exact ⟨_, _, rfl⟩

theorem Mmc3.hook_moves (r : Mmc3) : ∃ counter reload, r.hook = { r with irqCounter := counter, irqReload := reload } := by
  unfold Mmc3.hook
  split <;> exact ⟨_, _, rfl⟩

theorem hookMoves_hook (a : Addr) (s : State) : HookMoves s.mapper (s.hook a).mapper := by
  unfold State.hook
  cases h : s.mapper with
  | mmc2 r =>
    obtain ⟨l0, l1, hr⟩ := r.hook_moves a
    exact ⟨l0, l1, congrArg _ hr⟩
  | mmc3 r =>
    obtain ⟨counter, reload, hr⟩ := r.hook_moves
    exact ⟨counter, reload, congrArg _ hr⟩
  | _ => exact h

/-- From `s` to `t` nothing changes that the picture unit cannot reach: the processor, storage, the cartridge, the
parameters, the controller port, the scheduler, the step count, the marks of the running step, and the mapper registers but
those hooks write (R278). -/
structure PictureFrame (s t : State) : Prop where
  cpu : t.cpu = s.cpu
  mem : t.mem = s.mem
  mirror : t.mirror = s.mirror
  cart : t.cart = s.cart
  params : t.params = s.params
  pads : t.pads = s.pads
  sched : t.sched = s.sched
  ppuSteps : t.dev.history.ppuSteps = s.dev.history.ppuSteps
  ppuTouched : t.dev.ppuTouched = s.dev.ppuTouched
  oamPage : t.dev.oamPage = s.dev.oamPage
  mapper : HookMoves s.mapper t.mapper

theorem PictureFrame.refl (s : State) : PictureFrame s s := ⟨rfl, rfl, rfl, rfl, rfl, rfl, rfl, rfl, rfl, rfl, HookMoves.refl _⟩

theorem PictureFrame.trans {a b c : State} (h : PictureFrame a b) (h' : PictureFrame b c) : PictureFrame a c :=
  ⟨h'.cpu.trans h.cpu, h'.mem.trans h.mem, h'.mirror.trans h.mirror, h'.cart.trans h.cart, h'.params.trans h.params,
    h'.pads.trans h.pads, h'.sched.trans h.sched, h'.ppuSteps.trans h.ppuSteps, h'.ppuTouched.trans h.ppuTouched,
    h'.oamPage.trans h.oamPage, h.mapper.trans h'.mapper⟩

theorem pictureFrame_ppuCall (c : PpuCall) (s : State) : PictureFrame s (s.ppuCall c) := by
  cases c with
  | writeVram a v =>
    unfold State.ppuCall State.writeVram
    dsimp only
    split <;> exact ⟨rfl, rfl, rfl, rfl, rfl, rfl, rfl, rfl, rfl, rfl, HookMoves.refl _⟩
  | ntWrite r v =>
    unfold State.ppuCall State.ntWrite
    dsimp only
    split <;> exact ⟨rfl, rfl, rfl, rfl, rfl, rfl, rfl, rfl, rfl, rfl, HookMoves.refl _⟩
  | _ => exact ⟨rfl, rfl, rfl, rfl, rfl, rfl, rfl, rfl, rfl, rfl, HookMoves.refl _⟩

theorem pictureFrame_ppuCalls (cs : List PpuCall) (s : State) : PictureFrame s (s.ppuCalls cs) := by
  induction cs generalizing s with
  | nil => exact PictureFrame.refl _
  | cons c cs ih => exact (pictureFrame_ppuCall c s).trans (ih _)

theorem pictureFrame_hook (a : Addr) (s : State) : PictureFrame s (s.hook a) := by
  have h : { s with mapper := (s.hook a).mapper, pend := (s.hook a).pend } = s.hook a := by
    unfold State.hook
    split <;> rfl
  rw [← h]
  exact ⟨rfl, rfl, rfl, rfl, rfl, rfl, rfl, rfl, rfl, rfl, hookMoves_hook a s⟩

theorem pictureFrame_hookCall (h : Option Addr) (s : State) : PictureFrame s (s.hookCall h) := by
  cases h with
  | none => exact PictureFrame.refl _
  | some a =>
    exact (pictureFrame_hook a s).trans ⟨rfl, rfl, rfl, rfl, rfl, rfl, rfl, rfl, rfl, rfl, HookMoves.refl _⟩

theorem pictureFrame_runDot (d : Dot) (s : State) : PictureFrame s (s.runDot d) :=
  (pictureFrame_ppuCalls _ _).trans ((pictureFrame_hookCall _ _).trans (pictureFrame_ppuCalls _ _))

theorem pictureFrame_ppuSteps (n : Nat) (s : State) : PictureFrame s (s.ppuSteps n) := by
  induction n generalizing s with
  | zero => exact PictureFrame.refl _
  | succ n ih =>
    unfold State.ppuSteps
    split
    · exact PictureFrame.refl _
    · refine PictureFrame.trans (PictureFrame.trans ?_ (pictureFrame_runDot _ _)) (ih _)
      exact ⟨rfl, rfl, rfl, rfl, rfl, rfl, rfl, rfl, rfl, rfl, HookMoves.refl _⟩

end Sys2Proof.Machine
end

