-- ==== Sys2Proof/Laws/Loader.lean ====
section
/-! SUPPORT. What loading a cartridge image answers, in closed form, and the bytes its stores hold. -/

namespace Sys2Proof.Machine

/-- A store made from a list of bytes holds them, and the unlisted byte beyond them. -/
theorem read_memoryFrom (vs : List Byte) (lo k : Nat) : (memoryFrom lo vs).read (lo + k) = vs.getD k unlistedByte := by
  induction vs generalizing lo k with
  | nil => simp [memoryFrom]
  | cons v vs ih =>
    have hb := Memory.read_below (wfFrom_memoryFrom vs (lo + 1)) (Nat.lt_succ_self lo)
    unfold memoryFrom
    cases k with
    | zero =>
      split
      · simp [*]
      · simp [Memory.read]
    | succ k =>
      have h := ih (lo + 1) k
      rw [show lo + 1 + k = lo + (k + 1) by omega] at h
      split <;> simpa [Memory.read] using h

/-- The image an admitted list of bytes loads as (R280, R281). -/
def imageOf (image : List Byte) (variant : Variant) : Image :=
  { cart :=
      { prg16 := (headerByte image 4).toNat, chr8 := (headerByte image 5).toNat
        vertical := (headerByte image 6).getLsbD 0, battery := (headerByte image 6).getLsbD 1
        prg := memoryFrom 0 ((image.drop 16).take (16384 * (headerByte image 4).toNat)) }
    variant := variant
    chrRom :=
      memoryFrom 0
        ((image.drop (16 + 16384 * (headerByte image 4).toNat)).take (8192 * (headerByte image 5).toNat)) }

/-- Everything that makes an image load, and what it loads as. -/
theorem loadImage_ok_iff (image : List Byte) (im : Image) :
    loadImage image = .ok im ↔
      image.take 4 = [0x4E#8, 0x45#8, 0x53#8, 0x1A#8] ∧ (headerByte image 4).toNat ≠ 0 ∧
      16 + 16384 * (headerByte image 4).toNat + 8192 * (headerByte image 5).toNat ≤ image.length ∧
      ∃ variant, variantOf (mapperNumber image) = some variant ∧ im = imageOf image variant := by
  unfold loadImage
  simp only
  constructor
  · intro h
    repeat' (split at h <;> [cases h; skip])
    cases h
    exact ⟨by simpa using ‹¬List.take 4 image ≠ _›, by assumption, by omega, _, by assumption, rfl⟩
  · rintro ⟨hm, hp, hl, variant, hv, rfl⟩
    rw [if_neg (by omega), if_neg (by simp [hm]), hv]
    simp only
    rw [if_neg hp, if_neg (by omega)]
    rfl

end Sys2Proof.Machine
end

