-- ==== Sys2Proof/Laws/PerInstr.lean ====
section
/-! SUPPORT. One statement about every instruction as syntax, proved constructor by constructor. -/

namespace Sys2Proof.Laws

/-- The shape of an instruction: its bytes are as many as its mode says, one opcode byte and the mode's operand bytes
(spec/30_encoding.md R101, R122), and it is well-formed (R119, R127). -/
def Shape.Statement (i : Instr) : Prop := (encode i).length = i.mode.length ∧ i.wellFormed = true

theorem shape_of {i : Instr} (hl : (encode i).length = i.mode.length)
    (hm : i.mnemonic.modes.contains i.mode = true) (ho : i.operand < 256 ^ i.mode.operandBytes) :
    Shape.Statement i := by
  refine ⟨hl, ?_⟩
  simp only [Instr.wellFormed, Asm.wellFormed, Bool.and_eq_true, decide_eq_true_eq]
  exact ⟨hm, ho⟩

theorem Shape.ldaImm (v : Byte) : Shape.Statement (.ldaImm v) := shape_of rfl rfl v.isLt
theorem Shape.ldaZp (z : Byte) : Shape.Statement (.ldaZp z) := shape_of rfl rfl z.isLt
theorem Shape.ldaZpx (z : Byte) : Shape.Statement (.ldaZpx z) := shape_of rfl rfl z.isLt
theorem Shape.ldaAbs (w : Addr) : Shape.Statement (.ldaAbs w) := shape_of rfl rfl w.isLt
theorem Shape.ldaAbsx (w : Addr) : Shape.Statement (.ldaAbsx w) := shape_of rfl rfl w.isLt
theorem Shape.ldaAbsy (w : Addr) : Shape.Statement (.ldaAbsy w) := shape_of rfl rfl w.isLt
theorem Shape.ldaIzx (z : Byte) : Shape.Statement (.ldaIzx z) := shape_of rfl rfl z.isLt
theorem Shape.ldaIzy (z : Byte) : Shape.Statement (.ldaIzy z) := shape_of rfl rfl z.isLt
theorem Shape.ldxImm (v : Byte) : Shape.Statement (.ldxImm v) := shape_of rfl rfl v.isLt
theorem Shape.ldxZp (z : Byte) : Shape.Statement (.ldxZp z) := shape_of rfl rfl z.isLt
theorem Shape.ldxZpy (z : Byte) : Shape.Statement (.ldxZpy z) := shape_of rfl rfl z.isLt
theorem Shape.ldxAbs (w : Addr) : Shape.Statement (.ldxAbs w) := shape_of rfl rfl w.isLt
theorem Shape.ldxAbsy (w : Addr) : Shape.Statement (.ldxAbsy w) := shape_of rfl rfl w.isLt
theorem Shape.ldyImm (v : Byte) : Shape.Statement (.ldyImm v) := shape_of rfl rfl v.isLt
theorem Shape.ldyZp (z : Byte) : Shape.Statement (.ldyZp z) := shape_of rfl rfl z.isLt
theorem Shape.ldyZpx (z : Byte) : Shape.Statement (.ldyZpx z) := shape_of rfl rfl z.isLt
theorem Shape.ldyAbs (w : Addr) : Shape.Statement (.ldyAbs w) := shape_of rfl rfl w.isLt
theorem Shape.ldyAbsx (w : Addr) : Shape.Statement (.ldyAbsx w) := shape_of rfl rfl w.isLt
theorem Shape.staZp (z : Byte) : Shape.Statement (.staZp z) := shape_of rfl rfl z.isLt
theorem Shape.staZpx (z : Byte) : Shape.Statement (.staZpx z) := shape_of rfl rfl z.isLt
theorem Shape.staAbs (w : Addr) : Shape.Statement (.staAbs w) := shape_of rfl rfl w.isLt
theorem Shape.staAbsx (w : Addr) : Shape.Statement (.staAbsx w) := shape_of rfl rfl w.isLt
theorem Shape.staAbsy (w : Addr) : Shape.Statement (.staAbsy w) := shape_of rfl rfl w.isLt
theorem Shape.staIzx (z : Byte) : Shape.Statement (.staIzx z) := shape_of rfl rfl z.isLt
theorem Shape.staIzy (z : Byte) : Shape.Statement (.staIzy z) := shape_of rfl rfl z.isLt
theorem Shape.stxZp (z : Byte) : Shape.Statement (.stxZp z) := shape_of rfl rfl z.isLt
theorem Shape.stxZpy (z : Byte) : Shape.Statement (.stxZpy z) := shape_of rfl rfl z.isLt
theorem Shape.stxAbs (w : Addr) : Shape.Statement (.stxAbs w) := shape_of rfl rfl w.isLt
theorem Shape.styZp (z : Byte) : Shape.Statement (.styZp z) := shape_of rfl rfl z.isLt
theorem Shape.styZpx (z : Byte) : Shape.Statement (.styZpx z) := shape_of rfl rfl z.isLt
theorem Shape.styAbs (w : Addr) : Shape.Statement (.styAbs w) := shape_of rfl rfl w.isLt
theorem Shape.tax : Shape.Statement (.tax) := shape_of rfl rfl (by decide)
theorem Shape.tay : Shape.Statement (.tay) := shape_of rfl rfl (by decide)
theorem Shape.txa : Shape.Statement (.txa) := shape_of rfl rfl (by decide)
theorem Shape.tya : Shape.Statement (.tya) := shape_of rfl rfl (by decide)
theorem Shape.tsx : Shape.Statement (.tsx) := shape_of rfl rfl (by decide)
theorem Shape.txs : Shape.Statement (.txs) := shape_of rfl rfl (by decide)
theorem Shape.adcImm (v : Byte) : Shape.Statement (.adcImm v) := shape_of rfl rfl v.isLt
theorem Shape.adcZp (z : Byte) : Shape.Statement (.adcZp z) := shape_of rfl rfl z.isLt
theorem Shape.adcZpx (z : Byte) : Shape.Statement (.adcZpx z) := shape_of rfl rfl z.isLt
theorem Shape.adcAbs (w : Addr) : Shape.Statement (.adcAbs w) := shape_of rfl rfl w.isLt
theorem Shape.adcAbsx (w : Addr) : Shape.Statement (.adcAbsx w) := shape_of rfl rfl w.isLt
theorem Shape.adcAbsy (w : Addr) : Shape.Statement (.adcAbsy w) := shape_of rfl rfl w.isLt
theorem Shape.adcIzx (z : Byte) : Shape.Statement (.adcIzx z) := shape_of rfl rfl z.isLt
theorem Shape.adcIzy (z : Byte) : Shape.Statement (.adcIzy z) := shape_of rfl rfl z.isLt
theorem Shape.sbcImm (v : Byte) : Shape.Statement (.sbcImm v) := shape_of rfl rfl v.isLt
theorem Shape.sbcZp (z : Byte) : Shape.Statement (.sbcZp z) := shape_of rfl rfl z.isLt
theorem Shape.sbcZpx (z : Byte) : Shape.Statement (.sbcZpx z) := shape_of rfl rfl z.isLt
theorem Shape.sbcAbs (w : Addr) : Shape.Statement (.sbcAbs w) := shape_of rfl rfl w.isLt
theorem Shape.sbcAbsx (w : Addr) : Shape.Statement (.sbcAbsx w) := shape_of rfl rfl w.isLt
theorem Shape.sbcAbsy (w : Addr) : Shape.Statement (.sbcAbsy w) := shape_of rfl rfl w.isLt
theorem Shape.sbcIzx (z : Byte) : Shape.Statement (.sbcIzx z) := shape_of rfl rfl z.isLt
theorem Shape.sbcIzy (z : Byte) : Shape.Statement (.sbcIzy z) := shape_of rfl rfl z.isLt
theorem Shape.andImm (v : Byte) : Shape.Statement (.andImm v) := shape_of rfl rfl v.isLt
theorem Shape.andZp (z : Byte) : Shape.Statement (.andZp z) := shape_of rfl rfl z.isLt
theorem Shape.andZpx (z : Byte) : Shape.Statement (.andZpx z) := shape_of rfl rfl z.isLt
theorem Shape.andAbs (w : Addr) : Shape.Statement (.andAbs w) := shape_of rfl rfl w.isLt
theorem Shape.andAbsx (w : Addr) : Shape.Statement (.andAbsx w) := shape_of rfl rfl w.isLt
theorem Shape.andAbsy (w : Addr) : Shape.Statement (.andAbsy w) := shape_of rfl rfl w.isLt
theorem Shape.andIzx (z : Byte) : Shape.Statement (.andIzx z) := shape_of rfl rfl z.isLt
theorem Shape.andIzy (z : Byte) : Shape.Statement (.andIzy z) := shape_of rfl rfl z.isLt
theorem Shape.oraImm (v : Byte) : Shape.Statement (.oraImm v) := shape_of rfl rfl v.isLt
theorem Shape.oraZp (z : Byte) : Shape.Statement (.oraZp z) := shape_of rfl rfl z.isLt
theorem Shape.oraZpx (z : Byte) : Shape.Statement (.oraZpx z) := shape_of rfl rfl z.isLt
theorem Shape.oraAbs (w : Addr) : Shape.Statement (.oraAbs w) := shape_of rfl rfl w.isLt
theorem Shape.oraAbsx (w : Addr) : Shape.Statement (.oraAbsx w) := shape_of rfl rfl w.isLt
theorem Shape.oraAbsy (w : Addr) : Shape.Statement (.oraAbsy w) := shape_of rfl rfl w.isLt
theorem Shape.oraIzx (z : Byte) : Shape.Statement (.oraIzx z) := shape_of rfl rfl z.isLt
theorem Shape.oraIzy (z : Byte) : Shape.Statement (.oraIzy z) := shape_of rfl rfl z.isLt
theorem Shape.eorImm (v : Byte) : Shape.Statement (.eorImm v) := shape_of rfl rfl v.isLt
theorem Shape.eorZp (z : Byte) : Shape.Statement (.eorZp z) := shape_of rfl rfl z.isLt
theorem Shape.eorZpx (z : Byte) : Shape.Statement (.eorZpx z) := shape_of rfl rfl z.isLt
theorem Shape.eorAbs (w : Addr) : Shape.Statement (.eorAbs w) := shape_of rfl rfl w.isLt
theorem Shape.eorAbsx (w : Addr) : Shape.Statement (.eorAbsx w) := shape_of rfl rfl w.isLt
theorem Shape.eorAbsy (w : Addr) : Shape.Statement (.eorAbsy w) := shape_of rfl rfl w.isLt
theorem Shape.eorIzx (z : Byte) : Shape.Statement (.eorIzx z) := shape_of rfl rfl z.isLt
theorem Shape.eorIzy (z : Byte) : Shape.Statement (.eorIzy z) := shape_of rfl rfl z.isLt
theorem Shape.cmpImm (v : Byte) : Shape.Statement (.cmpImm v) := shape_of rfl rfl v.isLt
theorem Shape.cmpZp (z : Byte) : Shape.Statement (.cmpZp z) := shape_of rfl rfl z.isLt
theorem Shape.cmpZpx (z : Byte) : Shape.Statement (.cmpZpx z) := shape_of rfl rfl z.isLt
theorem Shape.cmpAbs (w : Addr) : Shape.Statement (.cmpAbs w) := shape_of rfl rfl w.isLt
theorem Shape.cmpAbsx (w : Addr) : Shape.Statement (.cmpAbsx w) := shape_of rfl rfl w.isLt
theorem Shape.cmpAbsy (w : Addr) : Shape.Statement (.cmpAbsy w) := shape_of rfl rfl w.isLt
theorem Shape.cmpIzx (z : Byte) : Shape.Statement (.cmpIzx z) := shape_of rfl rfl z.isLt
theorem Shape.cmpIzy (z : Byte) : Shape.Statement (.cmpIzy z) := shape_of rfl rfl z.isLt
theorem Shape.cpxImm (v : Byte) : Shape.Statement (.cpxImm v) := shape_of rfl rfl v.isLt
theorem Shape.cpxZp (z : Byte) : Shape.Statement (.cpxZp z) := shape_of rfl rfl z.isLt
theorem Shape.cpxAbs (w : Addr) : Shape.Statement (.cpxAbs w) := shape_of rfl rfl w.isLt
theorem Shape.cpyImm (v : Byte) : Shape.Statement (.cpyImm v) := shape_of rfl rfl v.isLt
theorem Shape.cpyZp (z : Byte) : Shape.Statement (.cpyZp z) := shape_of rfl rfl z.isLt
theorem Shape.cpyAbs (w : Addr) : Shape.Statement (.cpyAbs w) := shape_of rfl rfl w.isLt
theorem Shape.bitZp (z : Byte) : Shape.Statement (.bitZp z) := shape_of rfl rfl z.isLt
theorem Shape.bitAbs (w : Addr) : Shape.Statement (.bitAbs w) := shape_of rfl rfl w.isLt
theorem Shape.incZp (z : Byte) : Shape.Statement (.incZp z) := shape_of rfl rfl z.isLt
theorem Shape.incZpx (z : Byte) : Shape.Statement (.incZpx z) := shape_of rfl rfl z.isLt
theorem Shape.incAbs (w : Addr) : Shape.Statement (.incAbs w) := shape_of rfl rfl w.isLt
theorem Shape.incAbsx (w : Addr) : Shape.Statement (.incAbsx w) := shape_of rfl rfl w.isLt
theorem Shape.decZp (z : Byte) : Shape.Statement (.decZp z) := shape_of rfl rfl z.isLt
theorem Shape.decZpx (z : Byte) : Shape.Statement (.decZpx z) := shape_of rfl rfl z.isLt
theorem Shape.decAbs (w : Addr) : Shape.Statement (.decAbs w) := shape_of rfl rfl w.isLt
theorem Shape.decAbsx (w : Addr) : Shape.Statement (.decAbsx w) := shape_of rfl rfl w.isLt
theorem Shape.inx : Shape.Statement (.inx) := shape_of rfl rfl (by decide)
theorem Shape.iny : Shape.Statement (.iny) := shape_of rfl rfl (by decide)
theorem Shape.dex : Shape.Statement (.dex) := shape_of rfl rfl (by decide)
theorem Shape.dey : Shape.Statement (.dey) := shape_of rfl rfl (by decide)
theorem Shape.aslAcc : Shape.Statement (.aslAcc) := shape_of rfl rfl (by decide)
theorem Shape.aslZp (z : Byte) : Shape.Statement (.aslZp z) := shape_of rfl rfl z.isLt
theorem Shape.aslZpx (z : Byte) : Shape.Statement (.aslZpx z) := shape_of rfl rfl z.isLt
theorem Shape.aslAbs (w : Addr) : Shape.Statement (.aslAbs w) := shape_of rfl rfl w.isLt
theorem Shape.aslAbsx (w : Addr) : Shape.Statement (.aslAbsx w) := shape_of rfl rfl w.isLt
theorem Shape.lsrAcc : Shape.Statement (.lsrAcc) := shape_of rfl rfl (by decide)
theorem Shape.lsrZp (z : Byte) : Shape.Statement (.lsrZp z) := shape_of rfl rfl z.isLt
theorem Shape.lsrZpx (z : Byte) : Shape.Statement (.lsrZpx z) := shape_of rfl rfl z.isLt
theorem Shape.lsrAbs (w : Addr) : Shape.Statement (.lsrAbs w) := shape_of rfl rfl w.isLt
theorem Shape.lsrAbsx (w : Addr) : Shape.Statement (.lsrAbsx w) := shape_of rfl rfl w.isLt
theorem Shape.rolAcc : Shape.Statement (.rolAcc) := shape_of rfl rfl (by decide)
theorem Shape.rolZp (z : Byte) : Shape.Statement (.rolZp z) := shape_of rfl rfl z.isLt
theorem Shape.rolZpx (z : Byte) : Shape.Statement (.rolZpx z) := shape_of rfl rfl z.isLt
theorem Shape.rolAbs (w : Addr) : Shape.Statement (.rolAbs w) := shape_of rfl rfl w.isLt
theorem Shape.rolAbsx (w : Addr) : Shape.Statement (.rolAbsx w) := shape_of rfl rfl w.isLt
theorem Shape.rorAcc : Shape.Statement (.rorAcc) := shape_of rfl rfl (by decide)
theorem Shape.rorZp (z : Byte) : Shape.Statement (.rorZp z) := shape_of rfl rfl z.isLt
theorem Shape.rorZpx (z : Byte) : Shape.Statement (.rorZpx z) := shape_of rfl rfl z.isLt
theorem Shape.rorAbs (w : Addr) : Shape.Statement (.rorAbs w) := shape_of rfl rfl w.isLt
theorem Shape.rorAbsx (w : Addr) : Shape.Statement (.rorAbsx w) := shape_of rfl rfl w.isLt
theorem Shape.jmpAbs (w : Addr) : Shape.Statement (.jmpAbs w) := shape_of rfl rfl w.isLt
theorem Shape.jmpInd (w : Addr) : Shape.Statement (.jmpInd w) := shape_of rfl rfl w.isLt
theorem Shape.jsr (w : Addr) : Shape.Statement (.jsr w) := shape_of rfl rfl w.isLt
theorem Shape.rts : Shape.Statement (.rts) := shape_of rfl rfl (by decide)
theorem Shape.bcc (o : Byte) : Shape.Statement (.bcc o) := shape_of rfl rfl o.isLt
theorem Shape.bcs (o : Byte) : Shape.Statement (.bcs o) := shape_of rfl rfl o.isLt
theorem Shape.beq (o : Byte) : Shape.Statement (.beq o) := shape_of rfl rfl o.isLt
theorem Shape.bne (o : Byte) : Shape.Statement (.bne o) := shape_of rfl rfl o.isLt
theorem Shape.bmi (o : Byte) : Shape.Statement (.bmi o) := shape_of rfl rfl o.isLt
theorem Shape.bpl (o : Byte) : Shape.Statement (.bpl o) := shape_of rfl rfl o.isLt
theorem Shape.bvc (o : Byte) : Shape.Statement (.bvc o) := shape_of rfl rfl o.isLt
theorem Shape.bvs (o : Byte) : Shape.Statement (.bvs o) := shape_of rfl rfl o.isLt
theorem Shape.pha : Shape.Statement (.pha) := shape_of rfl rfl (by decide)
theorem Shape.pla : Shape.Statement (.pla) := shape_of rfl rfl (by decide)
theorem Shape.php : Shape.Statement (.php) := shape_of rfl rfl (by decide)
theorem Shape.plp : Shape.Statement (.plp) := shape_of rfl rfl (by decide)
theorem Shape.clc : Shape.Statement (.clc) := shape_of rfl rfl (by decide)
theorem Shape.sec : Shape.Statement (.sec) := shape_of rfl rfl (by decide)
theorem Shape.cli : Shape.Statement (.cli) := shape_of rfl rfl (by decide)
theorem Shape.sei : Shape.Statement (.sei) := shape_of rfl rfl (by decide)
theorem Shape.cld : Shape.Statement (.cld) := shape_of rfl rfl (by decide)
theorem Shape.sed : Shape.Statement (.sed) := shape_of rfl rfl (by decide)
theorem Shape.clv : Shape.Statement (.clv) := shape_of rfl rfl (by decide)
theorem Shape.nop : Shape.Statement (.nop) := shape_of rfl rfl (by decide)
theorem Shape.brk : Shape.Statement (.brk) := shape_of rfl rfl (by decide)
theorem Shape.rti : Shape.Statement (.rti) := shape_of rfl rfl (by decide)

end Sys2Proof.Laws
end

