-- ==== Sys2Proof/Laws/Reset.lean ====
section
/-! SUPPORT. The plain reset state is what the power-on procedure makes of the blank cartridge (log 1, log 2). -/

namespace Sys2Proof.Machine

/-- `State.reset` is the power-on state of the blank cartridge, an empty RAM_INIT, the default parameters and agents that
do nothing. -/
theorem reset_eq_powerOn :
    State.reset =
      State.powerOn { cart := Cart.blank, variant := .nrom, chrRom := [] } { mem := [], nt0 := [], nt1 := [], chrRam := [] }
        {} { boundary := [], reactions := [], oamReads := [], dots := [] } := by
  decide

end Sys2Proof.Machine
end

