-- ==== Sys2Proof/Tests/Slice0.lean ====
section
/-! SUPPORT. Tests. Each expected result is a worked example or a derived vector of spec/95_test_vectors.md (named V<n>
as there), an example of an instruction's rule, or a hand calculation from a rule named in the comment; none comes from
the model. -/

namespace Sys2Proof.Tests

open Sys2Proof.Machine

/-! ## Helpers -/

/-- Bytes written one by one into a store. -/
def put : List (Nat × Byte) → Memory → Memory
  | [], m => m
  | (a, v) :: r, m => put r (m.write a v)

/-- Bytes written from an address on. -/
def putFrom : Nat → List Byte → Memory → Memory
  | _, [], m => m
  | a, v :: r, m => putFrom (a + 1) r (m.write a v)

/-- The reset state with an instruction's bytes at `pc` (0x0200 unless said), registers and storage changed. -/
def bench (bytes : List Byte) (regs : Cpu → Cpu := id) (cells : List (Nat × Byte) := []) (pc : Addr := 0x0200#16) :
    State :=
  { State.reset with
    cpu := regs { State.reset.cpu with pc := pc }
    mem := putFrom pc.toNat bytes (put cells []) }

/-- The step answers a next state, and it passes a test. -/
def after (s : State) (p : State → Bool) : Bool :=
  match step s with
  | .next t => p t
  | _ => false

/-- Two steps. -/
def afterTwo (s : State) (p : State → Bool) : Bool := after s fun t => after t p

/-- The status byte read. -/
def status (t : State) : Byte := t.cpu.f.pack

/-- A byte of bus storage. -/
def memAt (t : State) (a : Nat) : Byte := t.mem.read a

/-- The cycles on the accumulator. -/
def cycles (t : State) : Nat := t.sched.acc

/-- Every pair's bytes decode to its instruction, with nothing left over. -/
def decodesAll : List (List Byte × Instr) → Bool
  | [] => true
  | (bs, i) :: r =>
    (match decode bs with
      | .ok (j, rest) => decide (j = i) && rest.isEmpty
      | .error _ => false) && decodesAll r

/-! ## Well-formedness: a term each check refuses -/

theorem test_wellFormed_refuses_missing_cell : (Asm.mk .STA .IMM 0x10).wellFormed = false := by decide
theorem test_wellFormed_refuses_wrong_index : (Asm.mk .LDX .ZPX 0x10).wellFormed = false := by decide
theorem test_wellFormed_refuses_wide_byte : (Asm.mk .LDA .ZP 0x100).wellFormed = false := by decide
theorem test_wellFormed_refuses_wide_address : (Asm.mk .JMP .IND 0x10000).wellFormed = false := by decide
theorem test_wellFormed_refuses_operand_of_implied : (Asm.mk .NOP .IMP 1).wellFormed = false := by decide
theorem test_wellFormed_accepts : (Asm.mk .JMP .ABS 0xFFFF).wellFormed = true := by decide

/-! ## Decoding: each constructor's word, its opcode byte in binary as spec/opcode_table.json gives it -/

theorem test_decode_words_loads_stores_transfers_1 : decodesAll
    [ ([0b10101001#8, 0x9C#8], .ldaImm 0x9C#8),
      ([0b10100101#8, 0x9C#8], .ldaZp 0x9C#8),
      ([0b10110101#8, 0x9C#8], .ldaZpx 0x9C#8),
      ([0b10101101#8, 0x34#8, 0x12#8], .ldaAbs 0x1234#16),
      ([0b10111101#8, 0x34#8, 0x12#8], .ldaAbsx 0x1234#16),
      ([0b10111001#8, 0x34#8, 0x12#8], .ldaAbsy 0x1234#16),
      ([0b10100001#8, 0x9C#8], .ldaIzx 0x9C#8),
      ([0b10110001#8, 0x9C#8], .ldaIzy 0x9C#8),
      ([0b10100010#8, 0x9C#8], .ldxImm 0x9C#8),
      ([0b10100110#8, 0x9C#8], .ldxZp 0x9C#8),
      ([0b10110110#8, 0x9C#8], .ldxZpy 0x9C#8),
      ([0b10101110#8, 0x34#8, 0x12#8], .ldxAbs 0x1234#16),
      ([0b10111110#8, 0x34#8, 0x12#8], .ldxAbsy 0x1234#16),
      ([0b10100000#8, 0x9C#8], .ldyImm 0x9C#8),
      ([0b10100100#8, 0x9C#8], .ldyZp 0x9C#8),
      ([0b10110100#8, 0x9C#8], .ldyZpx 0x9C#8),
      ([0b10101100#8, 0x34#8, 0x12#8], .ldyAbs 0x1234#16),
      ([0b10111100#8, 0x34#8, 0x12#8], .ldyAbsx 0x1234#16),
      ([0b10000101#8, 0x9C#8], .staZp 0x9C#8),
      ([0b10010101#8, 0x9C#8], .staZpx 0x9C#8),
      ([0b10001101#8, 0x34#8, 0x12#8], .staAbs 0x1234#16),
      ([0b10011101#8, 0x34#8, 0x12#8], .staAbsx 0x1234#16),
      ([0b10011001#8, 0x34#8, 0x12#8], .staAbsy 0x1234#16),
      ([0b10000001#8, 0x9C#8], .staIzx 0x9C#8) ] = true := by decide

theorem test_decode_words_loads_stores_transfers_2 : decodesAll
    [ ([0b10010001#8, 0x9C#8], .staIzy 0x9C#8),
      ([0b10000110#8, 0x9C#8], .stxZp 0x9C#8),
      ([0b10010110#8, 0x9C#8], .stxZpy 0x9C#8),
      ([0b10001110#8, 0x34#8, 0x12#8], .stxAbs 0x1234#16),
      ([0b10000100#8, 0x9C#8], .styZp 0x9C#8),
      ([0b10010100#8, 0x9C#8], .styZpx 0x9C#8),
      ([0b10001100#8, 0x34#8, 0x12#8], .styAbs 0x1234#16),
      ([0b10101010#8], .tax),
      ([0b10101000#8], .tay),
      ([0b10001010#8], .txa),
      ([0b10011000#8], .tya),
      ([0b10111010#8], .tsx),
      ([0b10011010#8], .txs) ] = true := by decide

theorem test_decode_words_arithmetic_logic_1 : decodesAll
    [ ([0b01101001#8, 0x9C#8], .adcImm 0x9C#8),
      ([0b01100101#8, 0x9C#8], .adcZp 0x9C#8),
      ([0b01110101#8, 0x9C#8], .adcZpx 0x9C#8),
      ([0b01101101#8, 0x34#8, 0x12#8], .adcAbs 0x1234#16),
      ([0b01111101#8, 0x34#8, 0x12#8], .adcAbsx 0x1234#16),
      ([0b01111001#8, 0x34#8, 0x12#8], .adcAbsy 0x1234#16),
      ([0b01100001#8, 0x9C#8], .adcIzx 0x9C#8),
      ([0b01110001#8, 0x9C#8], .adcIzy 0x9C#8),
      ([0b11101001#8, 0x9C#8], .sbcImm 0x9C#8),
      ([0b11100101#8, 0x9C#8], .sbcZp 0x9C#8),
      ([0b11110101#8, 0x9C#8], .sbcZpx 0x9C#8),
      ([0b11101101#8, 0x34#8, 0x12#8], .sbcAbs 0x1234#16),
      ([0b11111101#8, 0x34#8, 0x12#8], .sbcAbsx 0x1234#16),
      ([0b11111001#8, 0x34#8, 0x12#8], .sbcAbsy 0x1234#16),
      ([0b11100001#8, 0x9C#8], .sbcIzx 0x9C#8),
      ([0b11110001#8, 0x9C#8], .sbcIzy 0x9C#8),
      ([0b00101001#8, 0x9C#8], .andImm 0x9C#8),
      ([0b00100101#8, 0x9C#8], .andZp 0x9C#8),
      ([0b00110101#8, 0x9C#8], .andZpx 0x9C#8),
      ([0b00101101#8, 0x34#8, 0x12#8], .andAbs 0x1234#16),
      ([0b00111101#8, 0x34#8, 0x12#8], .andAbsx 0x1234#16),
      ([0b00111001#8, 0x34#8, 0x12#8], .andAbsy 0x1234#16),
      ([0b00100001#8, 0x9C#8], .andIzx 0x9C#8),
      ([0b00110001#8, 0x9C#8], .andIzy 0x9C#8) ] = true := by decide

theorem test_decode_words_arithmetic_logic_2 : decodesAll
    [ ([0b00001001#8, 0x9C#8], .oraImm 0x9C#8),
      ([0b00000101#8, 0x9C#8], .oraZp 0x9C#8),
      ([0b00010101#8, 0x9C#8], .oraZpx 0x9C#8),
      ([0b00001101#8, 0x34#8, 0x12#8], .oraAbs 0x1234#16),
      ([0b00011101#8, 0x34#8, 0x12#8], .oraAbsx 0x1234#16),
      ([0b00011001#8, 0x34#8, 0x12#8], .oraAbsy 0x1234#16),
      ([0b00000001#8, 0x9C#8], .oraIzx 0x9C#8),
      ([0b00010001#8, 0x9C#8], .oraIzy 0x9C#8),
      ([0b01001001#8, 0x9C#8], .eorImm 0x9C#8),
      ([0b01000101#8, 0x9C#8], .eorZp 0x9C#8),
      ([0b01010101#8, 0x9C#8], .eorZpx 0x9C#8),
      ([0b01001101#8, 0x34#8, 0x12#8], .eorAbs 0x1234#16),
      ([0b01011101#8, 0x34#8, 0x12#8], .eorAbsx 0x1234#16),
      ([0b01011001#8, 0x34#8, 0x12#8], .eorAbsy 0x1234#16),
      ([0b01000001#8, 0x9C#8], .eorIzx 0x9C#8),
      ([0b01010001#8, 0x9C#8], .eorIzy 0x9C#8),
      ([0b11001001#8, 0x9C#8], .cmpImm 0x9C#8),
      ([0b11000101#8, 0x9C#8], .cmpZp 0x9C#8),
      ([0b11010101#8, 0x9C#8], .cmpZpx 0x9C#8),
      ([0b11001101#8, 0x34#8, 0x12#8], .cmpAbs 0x1234#16),
      ([0b11011101#8, 0x34#8, 0x12#8], .cmpAbsx 0x1234#16),
      ([0b11011001#8, 0x34#8, 0x12#8], .cmpAbsy 0x1234#16),
      ([0b11000001#8, 0x9C#8], .cmpIzx 0x9C#8),
      ([0b11010001#8, 0x9C#8], .cmpIzy 0x9C#8) ] = true := by decide

theorem test_decode_words_arithmetic_logic_3 : decodesAll
    [ ([0b11100000#8, 0x9C#8], .cpxImm 0x9C#8),
      ([0b11100100#8, 0x9C#8], .cpxZp 0x9C#8),
      ([0b11101100#8, 0x34#8, 0x12#8], .cpxAbs 0x1234#16),
      ([0b11000000#8, 0x9C#8], .cpyImm 0x9C#8),
      ([0b11000100#8, 0x9C#8], .cpyZp 0x9C#8),
      ([0b11001100#8, 0x34#8, 0x12#8], .cpyAbs 0x1234#16),
      ([0b00100100#8, 0x9C#8], .bitZp 0x9C#8),
      ([0b00101100#8, 0x34#8, 0x12#8], .bitAbs 0x1234#16),
      ([0b11100110#8, 0x9C#8], .incZp 0x9C#8),
      ([0b11110110#8, 0x9C#8], .incZpx 0x9C#8),
      ([0b11101110#8, 0x34#8, 0x12#8], .incAbs 0x1234#16),
      ([0b11111110#8, 0x34#8, 0x12#8], .incAbsx 0x1234#16),
      ([0b11000110#8, 0x9C#8], .decZp 0x9C#8),
      ([0b11010110#8, 0x9C#8], .decZpx 0x9C#8),
      ([0b11001110#8, 0x34#8, 0x12#8], .decAbs 0x1234#16),
      ([0b11011110#8, 0x34#8, 0x12#8], .decAbsx 0x1234#16),
      ([0b11101000#8], .inx),
      ([0b11001000#8], .iny),
      ([0b11001010#8], .dex),
      ([0b10001000#8], .dey) ] = true := by decide

theorem test_decode_words_shifts : decodesAll
    [ ([0b00001010#8], .aslAcc),
      ([0b00000110#8, 0x9C#8], .aslZp 0x9C#8),
      ([0b00010110#8, 0x9C#8], .aslZpx 0x9C#8),
      ([0b00001110#8, 0x34#8, 0x12#8], .aslAbs 0x1234#16),
      ([0b00011110#8, 0x34#8, 0x12#8], .aslAbsx 0x1234#16),
      ([0b01001010#8], .lsrAcc),
      ([0b01000110#8, 0x9C#8], .lsrZp 0x9C#8),
      ([0b01010110#8, 0x9C#8], .lsrZpx 0x9C#8),
      ([0b01001110#8, 0x34#8, 0x12#8], .lsrAbs 0x1234#16),
      ([0b01011110#8, 0x34#8, 0x12#8], .lsrAbsx 0x1234#16),
      ([0b00101010#8], .rolAcc),
      ([0b00100110#8, 0x9C#8], .rolZp 0x9C#8),
      ([0b00110110#8, 0x9C#8], .rolZpx 0x9C#8),
      ([0b00101110#8, 0x34#8, 0x12#8], .rolAbs 0x1234#16),
      ([0b00111110#8, 0x34#8, 0x12#8], .rolAbsx 0x1234#16),
      ([0b01101010#8], .rorAcc),
      ([0b01100110#8, 0x9C#8], .rorZp 0x9C#8),
      ([0b01110110#8, 0x9C#8], .rorZpx 0x9C#8),
      ([0b01101110#8, 0x34#8, 0x12#8], .rorAbs 0x1234#16),
      ([0b01111110#8, 0x34#8, 0x12#8], .rorAbsx 0x1234#16) ] = true := by decide

theorem test_decode_words_control_flow : decodesAll
    [ ([0b01001100#8, 0x34#8, 0x12#8], .jmpAbs 0x1234#16),
      ([0b01101100#8, 0x34#8, 0x12#8], .jmpInd 0x1234#16),
      ([0b00100000#8, 0x34#8, 0x12#8], .jsr 0x1234#16),
      ([0b01100000#8], .rts),
      ([0b10010000#8, 0x9C#8], .bcc 0x9C#8),
      ([0b10110000#8, 0x9C#8], .bcs 0x9C#8),
      ([0b11110000#8, 0x9C#8], .beq 0x9C#8),
      ([0b11010000#8, 0x9C#8], .bne 0x9C#8),
      ([0b00110000#8, 0x9C#8], .bmi 0x9C#8),
      ([0b00010000#8, 0x9C#8], .bpl 0x9C#8),
      ([0b01010000#8, 0x9C#8], .bvc 0x9C#8),
      ([0b01110000#8, 0x9C#8], .bvs 0x9C#8) ] = true := by decide

theorem test_decode_words_stack_flags_system : decodesAll
    [ ([0b01001000#8], .pha),
      ([0b01101000#8], .pla),
      ([0b00001000#8], .php),
      ([0b00101000#8], .plp),
      ([0b00011000#8], .clc),
      ([0b00111000#8], .sec),
      ([0b01011000#8], .cli),
      ([0b01111000#8], .sei),
      ([0b11011000#8], .cld),
      ([0b11111000#8], .sed),
      ([0b10111000#8], .clv),
      ([0b11101010#8], .nop),
      ([0b00000000#8], .brk),
      ([0b01000000#8], .rti) ] = true := by decide


/-! ## V1: loads, stores, transfers -/

theorem test_V1_1_lda_imm_zero : after (bench [0xA9#8, 0x00#8]) (fun t => t.cpu.a == 0x00#8 && status t == 0x26#8 && t.cpu.pc == 0x0202#16 && cycles t == 2) = true := by decide

theorem test_V1_2_lda_imm_negative : after (bench [0xA9#8, 0x80#8]) (fun t => t.cpu.a == 0x80#8 && status t == 0xA4#8 && cycles t == 2) = true := by decide

theorem test_V1_3_lda_zpx_wraps : after (bench [0xB5#8, 0xFF#8] (fun c => { c with x := 0x02#8 }) [(0x0001, 0x5A#8), (0x0101, 0x77#8)]) (fun t => t.cpu.a == 0x5A#8 && status t == 0x24#8 && cycles t == 4) = true := by decide

theorem test_V1_4_lda_absx_crossed : after (bench [0xBD#8, 0xF0#8, 0x06#8] (fun c => { c with x := 0x20#8 }) [(0x0710, 0x42#8)]) (fun t => t.cpu.a == 0x42#8 && t.cpu.pc == 0x0203#16 && cycles t == 5) = true := by decide

theorem test_V1_5_lda_absx_not_crossed : after (bench [0xBD#8, 0xF0#8, 0x06#8] (fun c => { c with x := 0x0F#8 }) [(0x06FF, 0x43#8)]) (fun t => t.cpu.a == 0x43#8 && cycles t == 4) = true := by decide

theorem test_V1_6_sta_absx_crossed : after (bench [0x9D#8, 0xF0#8, 0x06#8] (fun c => { c with x := 0x20#8, a := 0x99#8 })) (fun t => memAt t 0x0710 == 0x99#8 && status t == 0x24#8 && cycles t == 5) = true := by decide

theorem test_V1_7_sta_absx_fixed_cost : after (bench [0x9D#8, 0xF0#8, 0x06#8] (fun c => { c with x := 0x01#8, a := 0x99#8 })) (fun t => memAt t 0x06F1 == 0x99#8 && cycles t == 5) = true := by decide

theorem test_V1_8_lda_izy_pointer_wraps : after (bench [0xB1#8, 0xFF#8] (fun c => { c with y := 0x10#8 }) [(0x00FF, 0x00#8), (0x0000, 0x03#8), (0x0310, 0x66#8)]) (fun t => t.cpu.a == 0x66#8 && cycles t == 5) = true := by decide

theorem test_V1_9_lda_izy_crossed : after (bench [0xB1#8, 0x20#8] (fun c => { c with y := 0x01#8 }) [(0x0020, 0xFF#8), (0x0021, 0x03#8), (0x0400, 0x67#8)]) (fun t => t.cpu.a == 0x67#8 && cycles t == 6) = true := by decide

theorem test_V1_10_lda_izx_wraps : after (bench [0xA1#8, 0xFE#8] (fun c => { c with x := 0x01#8 }) [(0x00FF, 0x34#8), (0x0000, 0x05#8), (0x0534, 0x68#8)]) (fun t => t.cpu.a == 0x68#8 && cycles t == 6) = true := by decide

theorem test_V1_11_lda_absx_truncates : after (bench [0xBD#8, 0xFF#8, 0xFF#8] (fun c => { c with x := 0x02#8 }) [(0x0001, 0x5A#8)]) (fun t => t.cpu.a == 0x5A#8 && cycles t == 5) = true := by decide

theorem test_V1_12_lda_mirror : after (bench [0xAD#8, 0x01#8, 0x08#8] (id) [(0x0001, 0x5A#8)]) (fun t => t.cpu.a == 0x5A#8 && cycles t == 4) = true := by decide

theorem test_V1_13_sta_mirror : after (bench [0x8D#8, 0x05#8, 0x18#8] (fun c => { c with a := 0x3C#8 })) (fun t => memAt t 0x0005 == 0x3C#8 && cycles t == 4) = true := by decide

theorem test_V1_14_sta_ppu_register : after (bench [0x8D#8, 0x08#8, 0x20#8] (fun c => { c with a := 0x3C#8 })) (fun t => t.dev.history.events == [.devWrite .ppu 0 0x3C#8] && cycles t == 4) = true := by decide

theorem test_V1_15_sta_oam_dma : (match exec (.staAbs 0x4014#16) (bench [] fun c => { c with a := 0x02#8 }) with
    | .next t => t.dev.history.events == [.devWrite .ppu 0x14 0x02#8] && t.dev.oamPage == some 0x02#8
    | _ => false) = true := by decide

theorem test_V1_16_sta_plain : after (bench [0x8D#8, 0x00#8, 0x60#8] (fun c => { c with a := 0x3C#8 })) (fun t => memAt t 0x6000 == 0x3C#8 && cycles t == 4) = true := by decide

theorem test_V1_17_txs : after (bench [0x9A#8] (fun c => { c with x := 0x00#8 })) (fun t => t.cpu.sp == 0x00#8 && status t == 0x24#8 && t.cpu.pc == 0x0201#16 && cycles t == 2) = true := by decide

theorem test_V1_18_tsx : after (bench [0xBA#8] (fun c => { c with sp := 0x00#8 })) (fun t => t.cpu.x == 0x00#8 && status t == 0x26#8 && cycles t == 2) = true := by decide

theorem test_V1_19_tax : after (bench [0xAA#8] (fun c => { c with a := 0x80#8 })) (fun t => t.cpu.x == 0x80#8 && status t == 0xA4#8 && cycles t == 2) = true := by decide

theorem test_V1_20_ldx_zpy : after (bench [0xB6#8, 0xF0#8] (fun c => { c with y := 0x20#8 }) [(0x0010, 0x09#8)]) (fun t => t.cpu.x == 0x09#8 && cycles t == 4) = true := by decide

theorem test_R143_ldy_imm : after (bench [0xA0#8, 0x7F#8]) (fun t => t.cpu.y == 0x7F#8 && status t == 0x24#8 && cycles t == 2) = true := by decide

theorem test_R145_stx_zp : after (bench [0x86#8, 0x10#8] (fun c => { c with x := 0x01#8 })) (fun t => memAt t 0x0010 == 0x01#8 && cycles t == 3) = true := by decide

theorem test_R146_sty_abs : after (bench [0x8C#8, 0xFF#8, 0x07#8] (fun c => { c with y := 0xFF#8 })) (fun t => memAt t 0x07FF == 0xFF#8 && cycles t == 4) = true := by decide

theorem test_R148_tay : after (bench [0xA8#8] (fun c => { c with a := 0x90#8 })) (fun t => t.cpu.y == 0x90#8 && status t == 0xA4#8) = true := by decide

theorem test_R149_txa : after (bench [0x8A#8] (fun c => { c with x := 0x01#8 })) (fun t => t.cpu.a == 0x01#8 && status t == 0x24#8) = true := by decide

theorem test_R150_tya : after (bench [0x98#8] (fun c => { c with y := 0xFF#8 })) (fun t => t.cpu.a == 0xFF#8 && status t == 0xA4#8) = true := by decide


/-! ## V2: arithmetic and logic -/

/-- Columns: A, m, carry in, A out, P out. -/
theorem test_V2_1_adc : ([(0x50#8, 0x50#8, false, 0xA0#8, 0xE4#8), (0xFF#8, 0x00#8, true, 0x00#8, 0x27#8), (0x7F#8, 0x00#8, true, 0x80#8, 0xE4#8), (0x80#8, 0x80#8, false, 0x00#8, 0x67#8), (0xFF#8, 0xFF#8, true, 0xFF#8, 0xA5#8), (0x01#8, 0xFF#8, false, 0x00#8, 0x27#8), (0x7F#8, 0x7F#8, true, 0xFF#8, 0xE4#8), (0x80#8, 0xFF#8, false, 0x7F#8, 0x65#8), (0x00#8, 0x00#8, false, 0x00#8, 0x26#8)].all fun (a, m, k, r, p) =>
      after (bench [0x69#8, m] fun c => { c with a := a, f := { c.f with c := k } }) fun t => t.cpu.a == r && status t == p && cycles t == 2) =
    true := by decide

/-- Columns: A, m, carry in, A out, P out. -/
theorem test_V2_2_sbc : ([(0x50#8, 0xF0#8, true, 0x60#8, 0x24#8), (0x00#8, 0x00#8, false, 0xFF#8, 0xA4#8), (0x80#8, 0x01#8, true, 0x7F#8, 0x65#8), (0x00#8, 0x00#8, true, 0x00#8, 0x27#8), (0x00#8, 0x01#8, true, 0xFF#8, 0xA4#8), (0x7F#8, 0xFF#8, true, 0x80#8, 0xE4#8), (0x50#8, 0xB0#8, true, 0xA0#8, 0xE4#8), (0xD0#8, 0x70#8, true, 0x60#8, 0x65#8), (0x80#8, 0x00#8, false, 0x7F#8, 0x65#8)].all fun (a, m, k, r, p) =>
      after (bench [0xE9#8, m] fun c => { c with a := a, f := { c.f with c := k } }) fun t => t.cpu.a == r && status t == p && cycles t == 2) =
    true := by decide

theorem test_V2_4_decimal_ignored : after (bench [0x69#8, 0x01#8] (fun c => { c with a := 0x99#8, f := { c.f with d := true } })) (fun t => t.cpu.a == 0x9A#8 && status t == 0xAC#8) = true := by decide

theorem test_V2_5_cmp : after (bench [0xC9#8, 0x20#8] (fun c => { c with a := 0x10#8 })) (fun t => t.cpu.a == 0x10#8 && status t == 0xA4#8 && cycles t == 2) = true := by decide

theorem test_V2_6_cmp_not_signed : after (bench [0xC9#8, 0x01#8] (fun c => { c with a := 0x80#8 })) (fun t => status t == 0x25#8) = true := by decide

theorem test_V2_8_bit : after (bench [0x24#8, 0x10#8] (fun c => { c with a := 0x01#8 }) [(0x0010, 0xC0#8)]) (fun t => t.cpu.a == 0x01#8 && status t == 0xE6#8 && cycles t == 3) = true := by decide

theorem test_V2_9_bit_clears : after (bench [0x24#8, 0x10#8] (fun c => { c with a := 0xFF#8, f := { c.f with v := true, n := true } }) [(0x0010, 0x3F#8)]) (fun t => status t == 0x24#8) = true := by decide

theorem test_V2_10_and : after (bench [0x29#8, 0x0F#8] (fun c => { c with a := 0xF0#8 })) (fun t => t.cpu.a == 0x00#8 && status t == 0x26#8 && cycles t == 2) = true := by decide

theorem test_V2_11_ora : after (bench [0x09#8, 0x80#8] (fun c => { c with a := 0x01#8 })) (fun t => t.cpu.a == 0x81#8 && status t == 0xA4#8) = true := by decide

theorem test_V2_12_eor : after (bench [0x49#8, 0xFF#8] (fun c => { c with a := 0xFF#8 })) (fun t => t.cpu.a == 0x00#8 && status t == 0x26#8) = true := by decide

theorem test_V2_13_cpx : after (bench [0xE0#8, 0x00#8]) (fun t => status t == 0x27#8) = true := by decide

theorem test_V2_14_cpy : after (bench [0xC0#8, 0x01#8]) (fun t => status t == 0xA4#8) = true := by decide

theorem test_V2_15_inc : after (bench [0xE6#8, 0x10#8] (fun c => { c with f := { c.f with c := true } }) [(0x0010, 0xFF#8)]) (fun t => memAt t 0x0010 == 0x00#8 && status t == 0x27#8 && cycles t == 5) = true := by decide

theorem test_V2_16_dec_absx : after (bench [0xDE#8, 0xFF#8, 0x06#8] (fun c => { c with x := 0x01#8 })) (fun t => memAt t 0x0700 == 0xFF#8 && status t == 0xA4#8 && cycles t == 7) = true := by decide

theorem test_V2_17_inx : after (bench [0xE8#8] (fun c => { c with x := 0xFF#8 })) (fun t => t.cpu.x == 0x00#8 && status t == 0x26#8 && cycles t == 2) = true := by decide

theorem test_V2_18_dey : after (bench [0x88#8]) (fun t => t.cpu.y == 0xFF#8 && status t == 0xA4#8 && cycles t == 2) = true := by decide

theorem test_V2_19_iny : after (bench [0xC8#8] (fun c => { c with y := 0x7F#8 })) (fun t => t.cpu.y == 0x80#8 && status t == 0xA4#8) = true := by decide

theorem test_V2_20_dex : after (bench [0xCA#8] (fun c => { c with x := 0x01#8 })) (fun t => t.cpu.x == 0x00#8 && status t == 0x26#8) = true := by decide


/-! ## V3: shifts and rotates -/

theorem test_V3_1_asl : after (bench [0x0A#8] (fun c => { c with a := 0x81#8 })) (fun t => t.cpu.a == 0x02#8 && status t == 0x25#8 && cycles t == 2) = true := by decide

theorem test_V3_3_lsr : after (bench [0x4A#8] (fun c => { c with a := 0x01#8 })) (fun t => t.cpu.a == 0x00#8 && status t == 0x27#8) = true := by decide

theorem test_V3_4_rol : after (bench [0x2A#8] (fun c => { c with a := 0x40#8, f := { c.f with c := true } })) (fun t => t.cpu.a == 0x81#8 && status t == 0xA4#8) = true := by decide

theorem test_V3_5_rol_to_zero : after (bench [0x2A#8] (fun c => { c with a := 0x80#8 })) (fun t => t.cpu.a == 0x00#8 && status t == 0x27#8) = true := by decide

theorem test_V3_6_ror : after (bench [0x6A#8] (fun c => { c with a := 0x01#8, f := { c.f with c := true } })) (fun t => t.cpu.a == 0x80#8 && status t == 0xA5#8) = true := by decide

theorem test_V3_8_ror_absx : after (bench [0x7E#8, 0xFF#8, 0x06#8] (fun c => { c with x := 0x01#8 }) [(0x0700, 0x03#8)]) (fun t => memAt t 0x0700 == 0x01#8 && status t == 0x25#8 && cycles t == 7) = true := by decide

theorem test_V3_9_lsr_zp : after (bench [0x46#8, 0x10#8] (id) [(0x0010, 0x02#8)]) (fun t => memAt t 0x0010 == 0x01#8 && status t == 0x24#8 && cycles t == 5) = true := by decide


/-! ## V4: control flow -/

theorem test_V4_1_jmp_ind_page_wrap : after (bench [0x6C#8, 0xFF#8, 0x02#8] (id) [(0x02FF, 0x34#8), (0x0200, 0x12#8), (0x0300, 0x56#8)] 0x0400#16) (fun t => t.cpu.pc == 0x1234#16 && cycles t == 5) = true := by decide

theorem test_V4_2_jmp_ind : after (bench [0x6C#8, 0x10#8, 0x03#8] (id) [(0x0310, 0x34#8), (0x0311, 0x12#8)] 0x0400#16) (fun t => t.cpu.pc == 0x1234#16 && cycles t == 5) = true := by decide

theorem test_V4_3_jsr_stack_wraps : after (bench [0x20#8, 0x34#8, 0x12#8] (fun c => { c with sp := 0x00#8 }) [] 0x0400#16) (fun t => memAt t 0x0100 == 0x04#8 && memAt t 0x01FF == 0x02#8 && t.cpu.sp == 0xFE#8 && t.cpu.pc == 0x1234#16 && cycles t == 6) = true := by decide

theorem test_V4_4_rts : after (bench [0x60#8] (fun c => { c with sp := 0xFE#8 }) [(0x01FF, 0xFF#8), (0x0100, 0xFF#8)]) (fun t => t.cpu.pc == 0x0000#16 && t.cpu.sp == 0x00#8 && cycles t == 6) = true := by decide

theorem test_V4_5_beq_other_page : after (bench [0xF0#8, 0x02#8] (fun c => { c with f := { c.f with z := true } }) [] 0x02FD#16) (fun t => t.cpu.pc == 0x0301#16 && cycles t == 4) = true := by decide

theorem test_V4_6_beq_not_taken : after (bench [0xF0#8, 0x02#8] (id) [] 0x02FD#16) (fun t => t.cpu.pc == 0x02FF#16 && cycles t == 2) = true := by decide

theorem test_V4_7_bne_self : after (bench [0xD0#8, 0xFE#8] (id) [] 0x0300#16) (fun t => t.cpu.pc == 0x0300#16 && cycles t == 3) = true := by decide

theorem test_V4_8_bcc_back : after (bench [0x90#8, 0x80#8] (id) [] 0x0300#16) (fun t => t.cpu.pc == 0x0282#16 && cycles t == 4) = true := by decide

theorem test_V4_9_bpl_forward : after (bench [0x10#8, 0x7F#8] (id) [] 0x0300#16) (fun t => t.cpu.pc == 0x0381#16 && cycles t == 3) = true := by decide

theorem test_V4_10_bcs_zero_offset : after (bench [0xB0#8, 0x00#8] (fun c => { c with f := { c.f with c := true } }) [] 0x0300#16) (fun t => t.cpu.pc == 0x0302#16 && cycles t == 3) = true := by decide

theorem test_V4_11_bne_other_page : after (bench [0xD0#8, 0xFD#8] (id) [] 0x0300#16) (fun t => t.cpu.pc == 0x02FF#16 && cycles t == 4) = true := by decide

theorem test_V4_12_bmi : after (bench [0x30#8, 0x10#8] (id) [] 0x0300#16) (fun t => t.cpu.pc == 0x0302#16 && cycles t == 2) = true := by decide

theorem test_V4_12_bvc : after (bench [0x50#8, 0x10#8] (id) [] 0x0300#16) (fun t => t.cpu.pc == 0x0312#16 && cycles t == 3) = true := by decide

theorem test_V4_12_bvs : after (bench [0x70#8, 0x10#8] (id) [] 0x0300#16) (fun t => t.cpu.pc == 0x0302#16 && cycles t == 2) = true := by decide

theorem test_V4_13_jmp_self : after (bench [0x4C#8, 0x00#8, 0x02#8]) (fun t => t.cpu.pc == 0x0200#16 && status t == 0x24#8 && cycles t == 3) = true := by decide


/-! ## V5: stack, flags, system -/

theorem test_V5_1_php : after (bench [0x08#8]) (fun t => memAt t 0x01FD == 0x34#8 && t.cpu.sp == 0xFC#8 && status t == 0x24#8 && cycles t == 3) = true := by decide

theorem test_V5_2_plp_ones : after (bench [0x28#8] (fun c => { c with sp := 0xFC#8 }) [(0x01FD, 0xFF#8)]) (fun t => status t == 0xEF#8 && t.cpu.sp == 0xFD#8 && cycles t == 4) = true := by decide

theorem test_V5_3_plp_zeros : after (bench [0x28#8] (fun c => { c with sp := 0xFC#8 })) (fun t => status t == 0x20#8 && cycles t == 4) = true := by decide

theorem test_V5_4_pha_wraps : after (bench [0x48#8] (fun c => { c with sp := 0x00#8, a := 0xAB#8 })) (fun t => memAt t 0x0100 == 0xAB#8 && t.cpu.sp == 0xFF#8 && cycles t == 3) = true := by decide

theorem test_V5_5_pla_wraps : after (bench [0x68#8] (fun c => { c with sp := 0xFF#8, a := 0x55#8 })) (fun t => t.cpu.sp == 0x00#8 && t.cpu.a == 0x00#8 && status t == 0x26#8 && cycles t == 4) = true := by decide

theorem test_V5_6_rti : after (bench [0x40#8] (fun c => { c with sp := 0xFA#8 }) [(0x01FB, 0xC3#8), (0x01FC, 0x34#8), (0x01FD, 0x12#8)]) (fun t => status t == 0xE3#8 && t.cpu.pc == 0x1234#16 && t.cpu.sp == 0xFD#8 && cycles t == 6) = true := by decide

/-- The example of rule R233. -/
theorem test_R233_brk : after { bench [0x00#8] with cart := { Cart.blank with prg := [(0x3FFF, 0x90#8)] } } (fun t =>
    memAt t 0x01FD == 0x02#8 && memAt t 0x01FC == 0x02#8 && memAt t 0x01FB == 0x34#8 && t.cpu.sp == 0xFA#8 &&
    t.cpu.pc == 0x9000#16 && cycles t == 7) = true := by decide

theorem test_V5_8_sed : after (bench [0xF8#8]) (fun t => status t == 0x2C#8 && cycles t == 2) = true := by decide

theorem test_V5_8_cld : after (bench [0xD8#8] (fun c => { c with f := { c.f with d := true } })) (fun t => status t == 0x24#8) = true := by decide

theorem test_V5_9_clv : after (bench [0xB8#8] (fun c => { c with f := { c.f with v := true } })) (fun t => status t == 0x24#8 && cycles t == 2) = true := by decide

theorem test_V5_10_sec : after (bench [0x38#8]) (fun t => status t == 0x25#8) = true := by decide

theorem test_V5_10_clc : after (bench [0x18#8] (fun c => { c with f := { c.f with c := true } })) (fun t => status t == 0x24#8) = true := by decide

theorem test_V5_11_cli : after (bench [0x58#8]) (fun t => status t == 0x20#8 && cycles t == 2) = true := by decide

theorem test_V5_11_sei : after (bench [0x78#8] (fun c => { c with f := { c.f with i := false } })) (fun t => status t == 0x24#8 && cycles t == 2) = true := by decide

theorem test_V5_12_nop : after (bench [0xEA#8]) (fun t => t.cpu.pc == 0x0201#16 && status t == 0x24#8 && cycles t == 2) = true := by decide

theorem test_V5_13_php_pla : afterTwo (bench [0x08#8, 0x68#8]) (fun t => t.cpu.a == 0x34#8 && status t == 0x24#8) = true := by decide


/-! ## V6: interrupts -/

/-- A cartridge whose NMI, Reset and IRQ vectors are 0x9000, 0xA000 and 0xB000. -/
def vectors : Cart := { Cart.blank with prg := [(0x3FFB, 0x90#8), (0x3FFD, 0xA0#8), (0x3FFF, 0xB0#8)] }

theorem test_V6_1_nmi_entry : after
    { bench [] (fun c => { c with f := { c.f with c := true, n := true } }) [] 0x0456#16 with
      cart := vectors, pend := { reset := false, nmi := true, irq := false } }
    (fun t => memAt t 0x01FD == 0x04#8 && memAt t 0x01FC == 0x56#8 && memAt t 0x01FB == 0xA5#8 && t.cpu.sp == 0xFA#8 &&
      t.cpu.f.i && t.cpu.pc == 0x9000#16 && !t.pend.nmi && cycles t == 7) = true := by decide

theorem test_V6_2_irq_masked : after { bench [0xEA#8] with pend := { reset := false, nmi := false, irq := true } }
    (fun t => t.cpu.pc == 0x0201#16 && t.pend.irq && cycles t == 2) = true := by decide

theorem test_V6_3_cli_then_irq : afterTwo
    { bench [0x58#8, 0xEA#8] with cart := vectors, pend := { reset := false, nmi := false, irq := true } }
    (fun t => memAt t 0x01FD == 0x02#8 && memAt t 0x01FC == 0x01#8 && memAt t 0x01FB == 0x20#8 && t.cpu.sp == 0xFA#8 &&
      status t == 0x24#8 && t.cpu.pc == 0xB000#16 && !t.pend.irq && cycles t == 9) = true := by decide

/-- The start of V6.4: all three marks set, I clear. -/
def allPending : State :=
  { bench [] (fun c => { c with a := 0x05#8, sp := 0x80#8, f := { c.f with i := false } }) with
    cart := vectors, pend := { reset := true, nmi := true, irq := true } }

theorem test_V6_4_reset_first : after allPending
    (fun t => t.cpu == Cpu.powerOn 0xA000#16 && t.mem == [] && t.pend == { reset := false, nmi := true, irq := true } &&
      cycles t == 7) = true := by decide

theorem test_V6_4_nmi_second : afterTwo allPending
    (fun t => t.cpu.sp == 0xFA#8 && t.cpu.pc == 0x9000#16 && t.pend == { reset := false, nmi := false, irq := true } &&
      cycles t == 14) = true := by decide

theorem test_V6_6_no_hijack : after { bench [0x00#8] with cart := vectors, pend := { reset := false, nmi := true, irq := false } }
    (fun t => memAt t 0x01FC == 0x00#8 && memAt t 0x01FB == 0x24#8 && t.cpu.pc == 0x9000#16) = true := by decide


/-! ## V7: scheduler -/

/-- V7.1, the 45th step: ADC zero page takes 113 to 116; 341 picture steps; 2 carried over. -/
theorem test_V7_1_batch_after_114 : after { bench [0x65#8, 0x10#8] with sched := { acc := 113, stop := false, atTop := false } }
    (fun t => cycles t == 2 && t.dev.history.ppuSteps == 341 && t.sched.atTop) = true := by decide

/-- V7.1, the 44th step. -/
theorem test_V7_no_batch_below_114 : after { bench [0x18#8] with sched := { acc := 111, stop := false, atTop := false } }
    (fun t => cycles t == 113 && t.dev.history.ppuSteps == 0) = true := by decide

theorem test_V7_3_stop_at_top : (match step { bench [0xEA#8] with sched := { acc := 2, stop := true, atTop := true } } with
    | .fault .stopped => true
    | _ => false) = true := by decide

theorem test_V7_3_stop_inside_iteration : after { bench [0xEA#8] with sched := { acc := 2, stop := true, atTop := false } }
    (fun t => cycles t == 4 && t.cpu.pc == 0x0201#16) = true := by decide


/-! ## V8: nametable resolver -/

/-- The state of V8.1 and V8.2: Vertical, 0xAA written at 000 and 0xBB at 400. -/
def ntBench : State := State.ntWrite 0x400#12 0xBB#8 (State.ntWrite 0x000#12 0xAA#8 { State.reset with mirror := .vertical })

/-- The bytes read at 000, 400, 800 and C00. -/
def ntFour (s : State) : List Byte := [s.ntRead 0x000#12, s.ntRead 0x400#12, s.ntRead 0x800#12, s.ntRead 0xC00#12]

theorem test_V8_1_vertical : ntFour ntBench = [0xAA#8, 0xBB#8, 0xAA#8, 0xBB#8] := by decide

theorem test_V8_2_horizontal : ntFour (ntBench.setMirroring .horizontal) = [0xAA#8, 0xAA#8, 0xBB#8, 0xBB#8] := by decide

theorem test_V8_3_upper : ntFour (ntBench.setMirroring .singleScreenUpper) = [0xBB#8, 0xBB#8, 0xBB#8, 0xBB#8] := by decide

theorem test_V8_4_lower : ntFour (ntBench.setMirroring .singleScreenLower) = [0xAA#8, 0xAA#8, 0xAA#8, 0xAA#8] := by decide

theorem test_V8_5_slot_three : (let s := (State.ntWrite 0xFFF#12 0xCC#8 (ntBench.setMirroring .horizontal)).setMirroring .vertical
    [s.ntRead 0x7FF#12, s.ntRead 0xFFF#12, s.ntRead 0x3FF#12, s.ntRead 0xBFF#12]) = [0xCC#8, 0xCC#8, 0x00#8, 0x00#8] := by decide

theorem test_R88_relative_address : [ntRelative 0x2000#16, ntRelative 0x2800#16, ntRelative 0x3EFF#16] = [0x000#12, 0x800#12, 0xEFF#12] := by decide


/-! ## V9: controller -/

/-- The pads of V9 after the strobe of V9.1: pad 1 buttons 1,0,0,1,0,0,0,1 and pad 2 buttons 0,1,0,0,0,0,1,0. -/
def padBench : Pads := Pads.strobeWrite 0x00#8 (Pads.strobeWrite 0x01#8 { buttons := 0x4289#16, strobe := false, rd0 := 5, rd1 := 7 })

/-- `n` reads of a pad: the answers, and the pads after them. -/
def padReads (pad2 : Bool) : Nat → Pads → List Byte × Pads
  | 0, p => ([], p)
  | n + 1, p => (p.answer pad2 :: (padReads pad2 n (p.advance pad2)).1, (padReads pad2 n (p.advance pad2)).2)

theorem test_V9_1_strobe_resets : (padBench.rd0 == 0 && padBench.rd1 == 0 && !padBench.strobe) = true := by decide

theorem test_V9_2_eight_reads : (padReads false 8 padBench).1 = [1#8, 0#8, 0#8, 1#8, 0#8, 0#8, 0#8, 1#8] ∧ (padReads false 8 padBench).2.rd0 = 8 := by decide

theorem test_V9_3_pad_two : (padReads true 3 padBench).1 = [0#8, 1#8, 0#8] ∧ (padReads true 3 padBench).2.rd0 = 0 := by decide

theorem test_V9_4_strobe_at_4017 : (let p := Pads.strobeWrite 0x01#8 { padBench with rd0 := 10, rd1 := 3 }
    (p.strobe, p.rd0, p.rd1, (Pads.strobeWrite 0x02#8 p).rd0, (Pads.strobeWrite 0x02#8 p).rd1)) = (true, 10, 3, 0, 0) := by decide

theorem test_V9_5_no_transition : (Pads.strobeWrite 0x00#8 { padBench with rd0 := 10 }).rd0 = 10 := by decide

theorem test_V9_6_wraps : (Pads.advance false { padBench with rd0 := 23 }).rd0 = 0 := by decide

theorem test_V1_21_lda_pad : after { bench [0xAD#8, 0x16#8, 0x40#8] with pads := padBench } (fun t => t.cpu.a == 0x01#8 && status t == 0x24#8 && t.pads.rd0 == 1 && cycles t == 4) = true := by decide


/-! ## V10 to V13: mappers -/

/-- A store with byte `base + k` at `k * size`, for `k` below `n`. -/
def banks (base size : Nat) : Nat → Memory
  | 0 => []
  | n + 1 => (banks base size n).write (n * size) (BitVec.ofNat 8 (base + n))

/-- A machine with a mapper, its PRG and its CHR. -/
def mapperBench (m : MapperState) (prg16 chr8 : Nat) (prg chr : Memory) : State :=
  { State.reset with
    mapper := m, cart := { Cart.blank with prg16 := prg16, chr8 := chr8, prg := prg }, chr := chr }

/-- Bus writes in order. -/
def writes : List (Addr × Byte) → State → State
  | [], s => s
  | (a, v) :: r, s => writes r (s.busWrite a v)

/-- Bytes the bus answers. -/
def reads (as : List Addr) (s : State) : List Byte := as.map fun a => s.busValue a

/-- Bytes the pattern space answers. -/
def vram (as : List PatternAddr) (s : State) : List Byte := as.map fun a => s.readVram a

theorem test_V10_1_nrom : reads [0x8000#16, 0xC000#16] (writes [(0x8000#16, 0x55#8)] (mapperBench .nrom 1 0 [(0, 0x99#8)] [])) = [0x99#8, 0x99#8] := by decide

theorem test_V10_2_unrom : (let s := writes [(0x8000#16, 0x02#8)] (mapperBench (.unrom 0#8) 4 0 (banks 0xB0 0x4000 4) [])
    (reads [0x8000#16] s, reads [0x8000#16, 0xC000#16] (writes [(0xFFFF#16, 0x05#8)] s))) = ([0xB2#8], [0xB1#8, 0xB3#8]) := by decide

theorem test_V10_3_cnrom : vram [0x0000#13] (writes [(0x8000#16, 0x03#8)] (mapperBench (.cnrom 0#8) 1 2 [] (banks 0x10 0x2000 2))) = [0x11#8] := by decide

theorem test_V10_4_axrom : (let s := writes [(0x8000#16, 0x13#8)] (mapperBench (.axrom 0#8) 8 0 (banks 0x70 0x8000 4) [])
    let t := writes [(0xFFFF#16, 0x06#8)] s
    (reads [0x8000#16] s, s.mirror, reads [0x8000#16] t, t.mirror)) =
    ([0x73#8], .singleScreenUpper, [0x72#8], .singleScreenLower) := by decide

theorem test_V10_6_chr_ram : ((State.writeVram 0x0123#13 0xAB#8 State.reset).readVram 0x0123#13) = 0xAB#8 := by decide

/-- The MMC1 machine of V11. -/
def mmc1Bench : State := mapperBench (MapperState.atLoad {} .mmc1) 8 4 (banks 0xA0 0x4000 8) []

/-- The MMC1 machine after V11.2. -/
def mmc1Loaded : State :=
  writes [(0x8000#16, 1#8), (0x8000#16, 0#8), (0x8000#16, 1#8), (0x8000#16, 0#8), (0xE000#16, 0#8)] mmc1Bench

/-- The MMC1 machine after V11.3. -/
def mmc1Control : State :=
  writes [(0x8000#16, 0#8), (0x8000#16, 1#8), (0x8000#16, 0#8), (0x8000#16, 1#8), (0x8000#16, 0#8)] mmc1Loaded

theorem test_V11_1_mmc1_at_load : reads [0x8000#16, 0xC000#16] mmc1Bench = [0xA0#8, 0xA7#8] := by decide

theorem test_V11_2_mmc1_bank : reads [0x8000#16, 0xC000#16] mmc1Loaded = [0xA5#8, 0xA7#8] := by decide

theorem test_V11_3_mmc1_control : reads [0x8000#16, 0xC000#16] mmc1Control = [0xA0#8, 0xA5#8] ∧ mmc1Control.mirror = .vertical := by decide

theorem test_V11_4_mmc1_reset_write : (let s := writes [(0x8000#16, 1#8), (0x8000#16, 1#8), (0xFFFF#16, 0x80#8)] mmc1Control
    (reads [0x8000#16, 0xC000#16] s, s.mirror)) = ([0xA5#8, 0xA7#8], .vertical) := by decide

theorem test_V11_8_inc_resets_mmc1 : after
    { bench [0xEE#8, 0x00#8, 0x80#8] with
      mapper := .mmc1 { shift := 5#5, count := 3, control := 0x02#5, chr0 := 0#5, chr1 := 0#5, prgreg := 0#5 }
      cart := { Cart.blank with prg := [(0, 0x7F#8)] } }
    (fun t => t.mapper == .mmc1 { shift := 0#5, count := 0, control := 0x0E#5, chr0 := 0#5, chr1 := 0#5, prgreg := 0#5 } &&
      status t == 0xA4#8 && cycles t == 6) = true := by decide

/-- The MMC2 machine of V12 after V12.2. -/
def mmc2Bench : State :=
  writes [(0xA000#16, 0x12#8), (0xB000#16, 0x01#8), (0xC000#16, 0x02#8), (0xD000#16, 0x03#8), (0xE000#16, 0x24#8)]
    (mapperBench (MapperState.atLoad {} .mmc2) 8 4 (banks 0xC0 0x2000 16) (banks 0xE0 0x1000 8))

theorem test_V12_2_mmc2 : reads [0x8000#16, 0xA000#16, 0xC000#16, 0xE000#16] mmc2Bench = [0xC2#8, 0xCD#8, 0xCE#8, 0xCF#8] ∧
    vram [0x0000#13, 0x1000#13] mmc2Bench = [0xE2#8, 0xE4#8] := by decide

theorem test_V12_3_to_5_mmc2_hook : vram [0x0000#13, 0x1000#13] (mmc2Bench.hook 0x0FD8#16) = [0xE1#8, 0xE4#8] ∧
    vram [0x0000#13, 0x1000#13] ((mmc2Bench.hook 0x0FD8#16).hook 0x1FD3#16) = [0xE1#8, 0xE3#8] ∧
    vram [0x0000#13] ((mmc2Bench.hook 0x0FE0#16).hook 0x0FC0#16) = [0xE2#8] := by decide

theorem test_V12_6_mmc2_mirroring : ((writes [(0xF000#16, 0x01#8)] mmc2Bench).mirror, (writes [(0xF000#16, 0x00#8)] mmc2Bench).mirror) = (.horizontal, .vertical) := by decide

/-- The MMC3 machine of V13. -/
def mmc3Bench : State := mapperBench (MapperState.atLoad {} .mmc3) 4 2 (banks 0xC0 0x2000 8) (banks 0xD0 0x0400 16)

/-- The first address of each 1 KiB slot. -/
def slots : List PatternAddr := [0x0000#13, 0x0400#13, 0x0800#13, 0x0C00#13, 0x1000#13, 0x1400#13, 0x1800#13, 0x1C00#13]

/-- `n` hooks: the counter after each and whether the IRQ mark was set by it. -/
def hooks : Nat → State → List (Byte × Bool)
  | 0, _ => []
  | n + 1, s =>
    let t := State.hook 0#16 { s with pend := { s.pend with irq := false } }
    (match t.mapper with | .mmc3 r => (r.irqCounter, t.pend.irq) | _ => (0xFF#8, false)) :: hooks n t

theorem test_V13_1_mmc3_at_load : reads [0x8000#16, 0xA000#16, 0xC000#16, 0xE000#16] mmc3Bench = [0xC0#8, 0xC1#8, 0xC6#8, 0xC7#8] ∧
    vram slots mmc3Bench = [0xD0#8, 0xD1#8, 0xD2#8, 0xD3#8, 0xD4#8, 0xD5#8, 0xD6#8, 0xD7#8] := by decide

theorem test_V13_2_3_mmc3_prg : reads [0x8000#16, 0xA000#16, 0xC000#16, 0xE000#16]
      (writes [(0x8000#16, 0x06#8), (0x8001#16, 0x03#8), (0x8000#16, 0x47#8), (0x8001#16, 0x0D#8)] mmc3Bench) =
    [0xC6#8, 0xC5#8, 0xC3#8, 0xC7#8] := by decide

theorem test_V13_4_mmc3_chr : vram slots (writes [(0x8000#16, 0x80#8), (0x8001#16, 0x09#8)] mmc3Bench) =
    [0xD4#8, 0xD5#8, 0xD6#8, 0xD7#8, 0xD8#8, 0xD9#8, 0xD2#8, 0xD3#8] := by decide

theorem test_V13_5_mmc3_counter : hooks 10 (writes [(0xC000#16, 0x03#8), (0xC001#16, 0#8), (0xE001#16, 0#8)] mmc3Bench) =
    [(3#8, false), (2#8, false), (1#8, false), (0#8, true), (3#8, false), (2#8, false), (1#8, false), (0#8, true),
      (3#8, false), (2#8, false)] := by decide

theorem test_V13_6_mmc3_latch_zero : hooks 3 (writes [(0xC000#16, 0#8), (0xC001#16, 0#8), (0xE001#16, 0#8)] mmc3Bench) = [(0#8, true), (0#8, true), (0#8, true)] := by decide

theorem test_V13_7_mmc3_mirroring : ((writes [(0xA000#16, 0x01#8)] mmc3Bench).mirror, (writes [(0xA000#16, 0x00#8)] mmc3Bench).mirror) = (.horizontal, .vertical) := by decide

theorem test_V13_8_no_acknowledge : (writes [(0xE000#16, 0#8)] { mmc3Bench with pend := { reset := false, nmi := false, irq := true } }).pend.irq = true := by decide

/-- Rule R9 takes `mod` on integers: banks -1, 0 and 1 of two. -/
theorem test_log14_mmc2_one_prg_bank : reads [0xA000#16, 0xC000#16, 0xE000#16] (mapperBench (MapperState.atLoad {} .mmc2) 1 0 (banks 0xC0 0x2000 2) []) =
    [0xC1#8, 0xC0#8, 0xC1#8] := by decide


/-! ## V14: loader -/

/-- What the loader says of an image with these header bytes 0 to 7, eight more and `n` PRG and CHR bytes of 0. -/
def loads (header : List Byte) (n : Nat) : Except LoadError (Nat × Nat × Bool × Bool × Variant) :=
  match loadImage (header ++ List.replicate (8 + n) 0#8) with
  | .ok im => .ok (im.cart.prg16, im.cart.chr8, im.cart.vertical, im.cart.battery, im.variant)
  | .error e => .error e

/-- The loader's answer, as data that can be compared. -/
def loadsTo (header : List Byte) (n : Nat) (r : Nat × Nat × Bool × Bool × Variant) : Bool :=
  match loads header n with
  | .ok q => q == r
  | .error _ => false

/-- The loader's refusal. -/
def loadFails (header : List Byte) (n : Nat) (e : LoadError) : Bool :=
  match loads header n with
  | .ok _ => false
  | .error d => d == e

theorem test_V14_mapper_numbers : [mapperNumber [0x4E#8, 0x45#8, 0x53#8, 0x1A#8, 2#8, 1#8, 0x01#8, 0#8],
      mapperNumber [0x4E#8, 0x45#8, 0x53#8, 0x1A#8, 8#8, 0#8, 0x12#8, 0#8],
      mapperNumber [0x4E#8, 0x45#8, 0x53#8, 0x1A#8, 0x10#8, 0x10#8, 0x40#8, 0#8],
      mapperNumber [0x4E#8, 0x45#8, 0x53#8, 0x1A#8, 8#8, 8#8, 0x90#8, 0#8]] = [0, 1, 4, 9] := by decide

theorem test_V14_4_unsupported : loadFails [0x4E#8, 0x45#8, 0x53#8, 0x1A#8, 2#8, 1#8, 0x60#8, 0#8] 0 (.unsupportedMapper 6) = true := by decide

theorem test_V14_4_bad_magic : loadFails [0x4E#8, 0x45#8, 0x53#8, 0x00#8, 2#8, 1#8, 0x00#8, 0#8] 0 .badMagic = true := by decide

theorem test_V14_4_no_prg : loadFails [0x4E#8, 0x45#8, 0x53#8, 0x1A#8, 0#8, 1#8, 0x00#8, 0#8] 0 .noPrg = true := by decide

theorem test_V14_short_image : loadFails [0x4E#8, 0x45#8, 0x53#8, 0x1A#8, 1#8, 0#8, 0x00#8, 0#8] 0 .shortImage = true := by decide


/-! ## The external agents and the host interface -/

/-- R278: the first PPU.Step() of the batch makes two calls. -/
theorem test_agents_dot_requests_nmi : after
    { bench [0xEA#8] with
      sched := { acc := 113, stop := false, atTop := false }
      env := { State.reset.env with dots := [⟨[.ntWrite 0x005#12 0x77#8], none, [.requestNmi]⟩] } }
    (fun t => t.pend.nmi && t.nt0 == [(5, 0x77#8)] && t.env.dots == []) = true := by decide

/-- R279: the input agent writes the buttons and the host requests a Reset before the poll. -/
theorem test_agents_boundary : after
    { bench [0xEA#8] with env := { State.reset.env with boundary := [[.setButtons 0x0003#16, .requestReset]] } }
    (fun t => t.pads.buttons == 0x0003#16 && t.cpu == Cpu.powerOn 0#16 && cycles t == 7) = true := by decide

/-- R279: a picture-unit register access lets the picture unit act. -/
theorem test_agents_reaction : after
    { bench [0x8D#8, 0x06#8, 0x20#8] with
      env := { State.reset.env with reactions := [[⟨[], some 0x1000#16, [.requestNmi]⟩]] } }
    (fun t => t.pend.nmi && t.env.reactions == [] && !t.dev.ppuTouched) = true := by decide

/-- R60: the picture unit reads the page written over the bus. -/
theorem test_agents_oam_reads : (State.oamDma
      { bench [] id [(0x0203, 0x5A#8)] with
        dev := { State.reset.dev with oamPage := some 0x02#8 }
        env := { State.reset.env with oamReads := [[0x03#8]] } }).dev.history.events = [.oamRead 0x0203#16 0x5A#8] := by decide

/-- R120. -/
theorem test_undefined_opcode_refused : (match step (bench [0x02#8]) with
    | .refused (.undefinedOpcode op) => op == 0x02#8
    | _ => false) = true := by decide

theorem test_withFetchWord_runs : after (State.reset.withFetchWord 16 0x80A9) (fun t => t.cpu.a == 0x80#8 && t.cpu.pc == 0x0002#16) = true := by decide

/-- An instruction that straddles 0xFFFF (R26). -/
theorem test_withFetchWord_in_cartridge : after (State.withFetchWord { State.reset with cpu := { State.reset.cpu with pc := 0xFFFE#16 } } 24 0x123499)
    (fun t => t.cpu.pc == 0x0001#16 && cycles t == 5) = true := by decide


/-! ## Witnesses: for each statement with hypotheses, a state and operands that meet them, clause by clause -/

/-- A step that passes any test is a next state. -/
theorem next_of_after {s : State} (h : after s (fun _ => true) = true) : ∃ t, step s = .next t := by
  unfold after at h
  split at h
  · exact ⟨_, ‹_›⟩
  · exact absurd h (by decide)

theorem witness_EncodeOfDecode :
    decode [0xA9#8, 0x80#8, 0x00#8] = .ok (.ldaImm 0x80#8, [0x00#8]) := by decide

theorem witness_EveryOpcodeByteIsDefinedOrListed :
    0x02#8 ∈ undefinedOpcodes ∧ 0xFF#8 ∈ undefinedOpcodes ∧ 0x00#8 ∉ undefinedOpcodes ∧ 0xFE#8 ∉ undefinedOpcodes := by decide

theorem witness_UndefinedOpcodeIsRefused :
    (let s := bench [0x02#8]
    s.pend.reset = false ∧ s.pend.nmi = false ∧ s.pend.irq = false ∧ (s.busRead s.cpu.pc).1 ∈ undefinedOpcodes) ∧
    (let s := { bench [0xFF#8] with pend := { reset := false, nmi := false, irq := true } }
     s.pend.reset = false ∧ s.pend.nmi = false ∧ s.cpu.f.i = true ∧ (s.busRead s.cpu.pc).1 ∈ undefinedOpcodes) := by decide

theorem witness_PowerOnAndServicedReset :
    Cart.blank.chr8 = 0 ∧ ({ Cart.blank with chr8 := 1 } : Cart).chr8 ≠ 0 ∧ ({ State.reset with pend := { reset := true, nmi := true, irq := false } } : State).pend.reset = true := by decide

/-- The smallest image of mapper 3 with CHR-ROM, Vertical, battery-backed: one PRG bank and one CHR bank. -/
def smallImage : List Byte :=
  [0x4E#8, 0x45#8, 0x53#8, 0x1A#8, 1#8, 1#8, 0x33#8, 0#8] ++ List.replicate (8 + 16384 + 8192) 0#8

theorem smallImage_length : smallImage.length = 24592 := by
  rw [smallImage, List.length_append, List.length_replicate]
  rfl

/-- A RAM_INIT with one byte in each store. -/
def smallRam : RamInit := { mem := [(0x7FFF, 1#8)], nt0 := [(1023, 2#8)], nt1 := [(0, 3#8)], chrRam := [(8191, 4#8)] }

/-- A machine that meets the invariant at the ends of its ranges: MMC1 with four bits buffered, 113 cycles outstanding. -/
def invBench : State :=
  { bench [0xEA#8] with
    mapper := .mmc1 { shift := 0#5, count := 4, control := 0x0C#5, chr0 := 0#5, chr1 := 0#5, prgreg := 0#5 }
    pads := { buttons := 0#16, strobe := true, rd0 := 23, rd1 := 0 }
    sched := { acc := 113, stop := false, atTop := false } }

theorem witness_PowerOnSatisfiesInvariant :
    ∃ im, loadImage smallImage = .ok im ∧ smallRam.Wf := 
  ⟨imageOf smallImage .cnrom,
    (loadImage_ok_iff _ _).2 ⟨rfl, by decide, by rw [smallImage_length]; decide, .cnrom, rfl, rfl⟩,
    by constructor <;> decide⟩

theorem witness_LoaderReadsAndChecksTheImage :
    ∃ im, loadImage smallImage = .ok im ∧ 16383 < 16384 * (smallImage.getD 4 0#8).toNat ∧
      8191 < 8192 * (smallImage.getD 5 0#8).toNat := 
  ⟨imageOf smallImage .cnrom,
    (loadImage_ok_iff _ _).2 ⟨rfl, by decide, by rw [smallImage_length]; decide, .cnrom, rfl, rfl⟩, by decide, by decide⟩

theorem witness_StepKeepsInvariant :
    invBench.Inv ∧ ∃ t, step invBench = .next t := by
  refine ⟨?_, next_of_after (by decide)⟩
  constructor
  case mmc1Count => rintro r ⟨⟩; decide
  all_goals decide

theorem witness_StepKeepsTheCartridge :
    (∃ t, step invBench = .next t) ∧ (∃ t, step { invBench with cart := { Cart.blank with chr8 := 1 } } = .next t) := 
  ⟨next_of_after (by decide), next_of_after (by decide)⟩

theorem witness_CarryIsUnsignedAndOverflowIsSigned :
    (addWithCarry 0x7F#8 0x00#8 false).v = false ∧ (addWithCarry 0x80#8 0x00#8 true).v = false ∧
    (subtractWithBorrow 0x80#8 0x00#8 true).v = false ∧ (subtractWithBorrow 0x7F#8 0x00#8 false).v = false := by decide

theorem witness_DecimalFlagChangesNoArithmetic :
    (Instr.adcImm 0xFF#8).mnemonic = .ADC ∧
    (Instr.sbcAbsx 0xFFFF#16).mnemonic = .SBC := by decide

/-- X and Y at 0xFF; the zero-page pointer at 0xFF is 0xFFFF, its high byte at 0x00. -/
def eaBench : State := bench [] (fun c => { c with x := 0xFF#8, y := 0xFF#8 }) [(0x00FF, 0xFF#8), (0x0000, 0xFF#8)]

/-- Hand calculation from R106 to R115; the second zero-page pointer, at 0x00FF, wraps in page 0. -/
theorem witness_EffectiveAddresses :
    (Instr.ldaZp 0xFF#8).mode = .ZP ∧ (ea (.ldaZp 0xFF#8) eaBench).addr = 0x00FF#16 ∧ (ea (.ldaZp 0xFF#8) eaBench).crossed = false ∧
    (Instr.ldaZpx 0xFF#8).mode = .ZPX ∧ (ea (.ldaZpx 0xFF#8) eaBench).addr = 0x00FE#16 ∧ (ea (.ldaZpx 0xFF#8) eaBench).crossed = false ∧
    (Instr.ldxZpy 0x01#8).mode = .ZPY ∧ (ea (.ldxZpy 0x01#8) eaBench).addr = 0x0000#16 ∧ (ea (.ldxZpy 0x01#8) eaBench).crossed = false ∧
    (Instr.ldaAbs 0xFFFF#16).mode = .ABS ∧ (ea (.ldaAbs 0xFFFF#16) eaBench).addr = 0xFFFF#16 ∧ (ea (.ldaAbs 0xFFFF#16) eaBench).crossed = false ∧
    (Instr.ldaAbsx 0xFF00#16).mode = .ABSX ∧ (ea (.ldaAbsx 0xFF00#16) eaBench).addr = 0xFFFF#16 ∧ (ea (.ldaAbsx 0xFF00#16) eaBench).crossed = false ∧
    (Instr.ldaAbsx 0xFF01#16).mode = .ABSX ∧ (ea (.ldaAbsx 0xFF01#16) eaBench).addr = 0x0000#16 ∧ (ea (.ldaAbsx 0xFF01#16) eaBench).crossed = true ∧
    (Instr.ldaAbsy 0x0001#16).mode = .ABSY ∧ (ea (.ldaAbsy 0x0001#16) eaBench).addr = 0x0100#16 ∧ (ea (.ldaAbsy 0x0001#16) eaBench).crossed = true ∧
    (Instr.ldaIzx 0x00#8).mode = .IZX ∧ (ea (.ldaIzx 0x00#8) eaBench).addr = 0xFFFF#16 ∧ (ea (.ldaIzx 0x00#8) eaBench).crossed = false ∧
    (Instr.ldaIzy 0xFF#8).mode = .IZY ∧ (ea (.ldaIzy 0xFF#8) eaBench).addr = 0x00FE#16 ∧ (ea (.ldaIzy 0xFF#8) eaBench).crossed = true := by decide

theorem witness_LoadsWriteTheRegister :
    (Instr.ldaIzx 0xFF#8).mnemonic = .LDA ∧
    (Instr.ldxAbsy 0xFFFF#16).mnemonic = .LDX ∧
    (Instr.ldyImm 0x00#8).mnemonic = .LDY := by decide

theorem witness_StoresWriteTheAddress :
    (Instr.staAbs 0x4014#16).mnemonic = .STA ∧
    (Instr.stxZpy 0xFF#8).mnemonic = .STX ∧
    (Instr.styZpx 0x00#8).mnemonic = .STY := by decide

theorem witness_AdcAddsWithCarry :
    (Instr.adcIzy 0xFF#8).mnemonic = .ADC := by decide

theorem witness_SbcSubtractsWithBorrow :
    (Instr.sbcZpx 0xFF#8).mnemonic = .SBC := by decide

theorem witness_LogicCombinesWithTheAccumulator :
    (Instr.andImm 0x00#8).mnemonic = .AND ∧
    (Instr.oraAbsx 0xFFFF#16).mnemonic = .ORA ∧
    (Instr.eorIzx 0xFF#8).mnemonic = .EOR := by decide

theorem witness_ComparesAndBitSetTheFlags :
    (Instr.cmpAbsy 0xFFFF#16).mnemonic = .CMP ∧
    (Instr.cpxImm 0x00#8).mnemonic = .CPX ∧
    (Instr.cpyAbs 0x2002#16).mnemonic = .CPY ∧
    (Instr.bitAbs 0x2002#16).mnemonic = .BIT := by decide

theorem witness_IncrementAndDecrementMemory :
    (Instr.incAbs 0x4014#16).mnemonic = .INC ∧
    (Instr.decAbsx 0xFFFF#16).mnemonic = .DEC := by decide

theorem witness_ShiftsMoveOneBit :
    Instr.aslAcc.mnemonic = .ASL ∧ Instr.aslAcc.mode = .ACC ∧ (Instr.aslZp 0xFF#8).mnemonic = .ASL ∧
    (Instr.aslZp 0xFF#8).mode ≠ .ACC ∧ Instr.lsrAcc.mnemonic = .LSR ∧ (Instr.lsrAbsx 0xFFFF#16).mnemonic = .LSR := by decide

theorem witness_RotatesGoThroughTheCarry :
    Instr.rolAcc.mnemonic = .ROL ∧ Instr.rolAcc.mode = .ACC ∧ (Instr.rolZp 0xFF#8).mnemonic = .ROL ∧
    (Instr.rolZp 0xFF#8).mode ≠ .ACC ∧ Instr.rorAcc.mnemonic = .ROR ∧ (Instr.rorAbsx 0xFFFF#16).mnemonic = .ROR := by decide

theorem witness_InstructionFrame :
    (∃ t, exec (.ldaImm 0x00#8) State.reset = .next t ∧ storesAtEa (.ldaImm 0x00#8) = false) ∧
    ∃ t, exec (.staAbs 0x7FFF#16) State.reset = .next t ∧ (ea (.staAbs 0x7FFF#16) State.reset).addr.toNat < 0x8000 := 
  ⟨⟨_, rfl, by decide⟩, _, rfl, by decide⟩

theorem witness_NonStoringFormsLeaveMemory :
    ∃ t, exec (.ldaAbs 0xFFFF#16) State.reset = .next t ∧ storesAtEa (.ldaAbs 0xFFFF#16) = false ∧
      pushCount (.ldaAbs 0xFFFF#16) = 0 :=  ⟨_, rfl, by decide, by decide⟩

theorem witness_StoringFormsChangeOneByte :
    (∀ a : Addr, storesAtEa (.staAbs a) = true ∧ (ea (.staAbs a) State.reset).addr = a ∧
      ∃ t, exec (.staAbs a) State.reset = .next t) ∧
    (0x07FE#16).toNat % 0x0800 ≠ (0x1FFF#16).toNat % 0x0800 ∧ (0x7FFE#16).toNat ≠ (0x7FFF#16).toNat := 
  ⟨fun a => ⟨rfl, by simp [ea, Instr.mode, Instr.asm, Instr.operand, resolveMode, eaAbs], _, rfl⟩, by decide⟩

theorem witness_PushingFormsChangeTheirStackBytes :
    ∃ t, exec .brk (bench [] fun c => { c with sp := 0x01#8 }) = .next t ∧ 0 < pushCount .brk ∧
      ∀ k, k < pushCount .brk → (0x0102#16).toNat % 0x0800 ≠ 0x0100 + (0x01#8 - BitVec.ofNat 8 k).toNat :=  ⟨_, rfl, by decide, by decide⟩

/-- Both ends of every clause of BusReadContract and BusWriteContract, by hand from the map of R55. -/
theorem witness_BusContracts :
    [0x0000#16, 0x1FFF#16, 0x2000#16, 0x3FFF#16, 0x4000#16, 0x4013#16, 0x4014#16, 0x4015#16, 0x4016#16, 0x4017#16,
        0x4018#16, 0x401F#16, 0x4020#16, 0x7FFF#16, 0x8000#16, 0xFFFF#16].map busRegion =
      [.ram 0, .ram 0x07FF, .ppuReg 0, .ppuReg 7, .apuReg 0x4000, .apuReg 0x4013, .oamDma, .apuReg 0x4015, .pad false,
        .pad true, .apuReg 0x4018, .apuReg 0x401F, .plain 0x4020, .plain 0x7FFF, .cartridge, .cartridge] ∧
    State.reset.mem.wf = true := by decide

theorem witness_RamMirrorsNameOneByte :
    (bench [0xEA#8]).mem.wf = true ∧ 0x07FF < 0x0800 ∧ 3 < 4 ∧ 0 < 4 := by decide

theorem witness_ControllerPorts :
    ((0x4016 : Addr) = 0x4016#16 ∨ (0x4016 : Addr) = 0x4017#16) ∧ (0x4015 : Addr) ≠ 0x4016#16 ∧ (0x4018 : Addr) ≠ 0x4017#16 ∧ padBench.rd0 < 8 ∧ { padBench with rd1 := 7 }.rd1 < 8 ∧
    8 ≤ { padBench with rd0 := 8 }.rd0 ∧ { padBench with rd1 := 23 }.rd1 ≤ 23 ∧ 7 < 8 := by decide

theorem witness_NametableMirroring :
    ntBench.nt0.wf = true ∧ ntBench.nt1.wf = true ∧ (0x7FF#12).toNat % 1024 = (0x3FF#12).toNat % 1024 ∧
    physTable .horizontal (BitVec.ofNat 2 ((0x7FF#12).toNat / 1024)) =
      physTable ntBench.mirror (BitVec.ofNat 2 ((0x3FF#12).toNat / 1024)) := by decide

theorem witness_BankIndexesStayInBounds :
    1 ≤ Cart.blank.prg16 ∧ Cart.blank.chr8 = 0 := by decide

theorem witness_PatternSpace :
    State.reset.cart.chr8 = 0 ∧ State.reset.chr.wf = true ∧ mmc3Bench.cart.chr8 ≠ 0 ∧ 15 < 16 ∧
    ({ State.reset with mapper := .cnrom 0xFF#8 } : State).cart.chr8 = 0 ∧
    ({ State.reset with mapper := .cnrom 0xFF#8 } : State).mapper = .cnrom 0xFF#8 ∧
    (∃ r, ({ State.reset with mapper := MapperState.atLoad {} .mmc1 } : State).mapper = .mmc1 r) ∧
    (∃ r, ({ State.reset with mapper := MapperState.atLoad {} .mmc2 } : State).mapper = .mmc2 r) ∧
    ∃ r, ({ State.reset with mapper := MapperState.atLoad {} .mmc3 } : State).mapper = .mmc3 r := 
  ⟨by decide, by decide, by decide, by decide, by decide, by decide, ⟨_, rfl⟩, ⟨_, rfl⟩, _, rfl⟩

theorem witness_SimpleMappers :
    [0x8000#16, 0xBFFF#16, 0xC000#16, 0xFFFF#16].all (fun a => decide (0x8000 ≤ a.toNat)) = true ∧
    ∀ m : MapperState, 1 ≤ (mapperBench m 1 1 [] []).cart.prg16 ∧ (mapperBench m 1 1 [] []).cart.chr8 ≠ 0 ∧
      (mapperBench m 1 1 [] []).mapper = m :=  ⟨by decide, fun _ => ⟨Nat.le_refl 1, Nat.one_ne_zero, rfl⟩⟩

/-- MMC1 registers with a control value and a count. -/
def mmc1Regs (control : BitVec 5) (count : Nat) : Mmc1 :=
  { shift := 0#5, count := count, control := control, chr0 := 0x1F#5, chr1 := 0x1F#5, prgreg := 0x1F#5 }

theorem witness_Mmc1Windows :
    [0x8000#16, 0xBFFF#16, 0xC000#16, 0xFFFF#16].all (fun a => decide (0x8000 ≤ a.toNat)) = true ∧ 1 ≤ mmc1Bench.cart.prg16 ∧
    mmc1Bench.cart.chr8 ≠ 0 ∧ (∃ r, mmc1Bench.mapper = .mmc1 r) ∧
    [0x00#5, 0x04#5, 0x08#5, 0x0C#5].map (fun k => (mmc1Regs k 0).control.toNat / 4 % 4) = [0, 1, 2, 3] ∧
    (mmc1Regs 0x0F#5 0).control.toNat / 16 = 0 ∧ (mmc1Regs 0x10#5 0).control.toNat / 16 = 1 := 
  ⟨by decide, by decide, by decide, ⟨_, rfl⟩, by decide, by decide, by decide⟩

theorem witness_Mmc1SerialWrites :
    [0x8000#16, 0x9FFF#16, 0xA000#16, 0xBFFF#16, 0xC000#16, 0xDFFF#16, 0xE000#16, 0xFFFF#16].all (fun a => decide (0x8000 ≤ a.toNat)) = true ∧
    (0x80#8).getLsbD 7 = true ∧ (0x7F#8).getLsbD 7 = false ∧ (mmc1Regs 0x0C#5 3).count < 4 ∧
    (mmc1Regs 0x0C#5 4).count = 4 ∧ (∃ r, mmc1Bench.mapper = .mmc1 r ∧ r.count = 0 ∧ r.shift = 0#5) := 
  ⟨by decide, by decide, by decide, by decide, by decide, _, rfl, rfl, rfl⟩

theorem witness_Mmc2Behaviour :
    [0x8000#16, 0x9FFF#16, 0xA000#16, 0xBFFF#16, 0xC000#16, 0xDFFF#16, 0xE000#16, 0xFFFF#16].all (fun a => decide (0x8000 ≤ a.toNat)) = true ∧
    [0x8000#16, 0x9FFF#16, 0xAFFF#16, 0xB000#16, 0xCFFF#16, 0xD000#16, 0xEFFF#16, 0xF000#16].map (fun a => a.toNat / 0x1000) =
      [0x8, 0x9, 0xA, 0xB, 0xC, 0xD, 0xE, 0xF] ∧
    2 ≤ mmc2Bench.cart.prg16 ∧ mmc2Bench.cart.chr8 ≠ 0 ∧ ∃ r, mmc2Bench.mapper = .mmc2 r := 
  ⟨by decide, by decide, by decide, by decide, _, rfl⟩

theorem witness_Mmc3WindowsAndRegisters :
    [0x8000#16, 0x9FFF#16, 0xA000#16, 0xBFFF#16, 0xC000#16, 0xDFFF#16, 0xE000#16, 0xFFFF#16].all (fun a => decide (0x8000 ≤ a.toNat)) = true ∧
    [0x8000#16, 0x9FFF#16, 0xA000#16, 0xBFFF#16, 0xC000#16, 0xDFFF#16, 0xE000#16, 0xFFFF#16].map
        (fun a => (a.toNat / 0x2000, a.toNat % 2)) =
      [(4, 0), (4, 1), (5, 0), (5, 1), (6, 0), (6, 1), (7, 0), (7, 1)] ∧
    1 ≤ mmc3Bench.cart.prg16 ∧ mmc3Bench.cart.chr8 ≠ 0 ∧
    slots.map (fun c => (c.toNat / 1024 + 4) % 8) = [4, 5, 6, 7, 0, 1, 2, 3] ∧ ∃ r, mmc3Bench.mapper = .mmc3 r := 
  ⟨by decide, by decide, by decide, by decide, by decide, _, rfl⟩

/-- MMC3 registers with a reload requested and the interrupt enabled. -/
def mmc3Armed (latch : Byte) : Mmc3 :=
  { bsel := 0#8, r0 := 0#8, r1 := 2#8, r2 := 4#8, r3 := 5#8, r4 := 6#8, r5 := 7#8, r6 := 0#8, r7 := 1#8
    irqLatch := latch, irqCounter := 0x10#8, irqReload := true, irqEnable := true }

theorem witness_Mmc3ScanlineCounter :
    ∀ latch ∈ [0x00#8, 0x01#8, 0xFF#8],
      let s : State := { State.reset with mapper := .mmc3 (mmc3Armed latch) }
      s.mapper = .mmc3 (mmc3Armed latch) ∧ (mmc3Armed latch).irqReload = true ∧ (mmc3Armed latch).irqEnable = true ∧
        s.pend.irq = false ∧ latch.toNat ≤ (mmc3Armed latch).irqLatch.toNat := by decide

/-- Whatever the free value is, some machine has the byte it names. -/
theorem witness_Mmc5Stub :
    ∃ s : State, s.mapper = .mmc5 ∧ s.cart.chr8 ≠ 0 ∧ Config.mmc5PrgMap 0x8000 < 16384 * s.cart.prg16 := 
  ⟨mapperBench .mmc5 (Config.mmc5PrgMap 0x8000 + 1) 1 [] [], rfl, Nat.one_ne_zero,
    show _ < 16384 * (Config.mmc5PrgMap 0x8000 + 1) by omega⟩

theorem witness_InterruptPriority :
    (∃ s : State, s.pend.reset = true ∧ s.pend.nmi = true) ∧
    (∃ s : State, s.pend.reset = false ∧ s.pend.nmi = true ∧ s.pend.irq = true) ∧
    (∃ s : State, s.pend.reset = false ∧ s.pend.nmi = false ∧ s.pend.irq = true ∧ s.cpu.f.i = false) ∧
    (∃ s : State, s.pend.reset = false ∧ s.pend.nmi = false ∧ s.pend.irq = true ∧ s.cpu.f.i = true ∧
      ∃ u, s.fetch = ⟨0xEA#8, some .nop, u⟩) := 
  ⟨⟨allPending, by decide⟩, ⟨{ allPending with pend := { reset := false, nmi := true, irq := true } }, by decide⟩,
    ⟨{ allPending with pend := { reset := false, nmi := false, irq := true } }, by decide⟩,
    { bench [0xEA#8] with pend := { reset := false, nmi := false, irq := true } }, by decide, by decide, by decide,
    by decide, _, rfl⟩

theorem witness_ReturnsUndoEntriesAndCalls :
    (bench [0xEA#8]).mem.wf = true ∧ Interrupt.nmi ≠ .reset ∧ Interrupt.irq ≠ .reset := by decide

/-- A state about to run a three-byte instruction with an IRQ masked, a stop requested inside an iteration and 113 cycles
outstanding. -/
def runBench : State :=
  { bench [0xAD#8, 0x34#8, 0x12#8] with
    pend := { reset := false, nmi := false, irq := true }
    sched := { acc := 113, stop := true, atTop := false } }

theorem witness_StepRunsTheDecodedInstruction :
    (let u := runBench.atBoundary
     u.sched.atTop = false ∧ u.sched.acc < 114 ∧ u.pend.reset = false ∧ u.pend.nmi = false ∧ u.cpu.f.i = true ∧
      ∀ k, k < (encode (.ldaAbs 0x1234#16)).length →
        u.peek (u.cpu.pc + BitVec.ofNat 16 k) = (encode (.ldaAbs 0x1234#16))[k]?) ∧
    (∃ w, State.fetch { runBench.atBoundary with sched := { runBench.atBoundary.sched with atTop := false } } =
      ⟨0xAD#8, some (.ldaAbs 0x1234#16), w⟩) ∧
    ({ runBench with cart := { Cart.blank with chr8 := 1 } } : State).cart.chr8 ≠ 0 :=  ⟨by decide, ⟨_, rfl⟩, by decide⟩

theorem witness_StopEndsTheRunAtTheTop :
    (let s : State := { State.reset with sched := { acc := 0, stop := true, atTop := true } }
     s.atBoundary.sched.atTop = true ∧ s.atBoundary.sched.stop = true) ∧
    (let s : State := { State.reset with env := { State.reset.env with boundary := [[.setStop]] } }
     s.atBoundary.sched.atTop = true ∧ s.atBoundary.sched.stop = true) := by decide

/-- A NOP about to run inside an iteration, with `acc` cycles outstanding. -/
def nopAt (acc : Nat) (stop : Bool) : State := { bench [0xEA#8] with sched := { acc := acc, stop := stop, atTop := false } }
theorem witness_SchedulerRatio :
    (let s : State := { State.reset with sched := { acc := 228, stop := false, atTop := false } }
     s.sched.stop = false ∧ (s.atBoundary.sched.atTop = false ∨ s.atBoundary.sched.stop = false) ∧
       114 ≤ s.atBoundary.sched.acc) ∧
    (let s : State := { State.reset with sched := { acc := 114, stop := true, atTop := false } }
     s.sched.stop = true ∧ 114 ≤ s.sched.acc ∧ s.atBoundary.sched.atTop = false) ∧
    (∃ t, cpuStep (nopAt 112 false) = .next t ∧ (nopAt 112 false).atBoundary = nopAt 112 false ∧ t.sched.stop = false ∧
      t.sched.acc = 114) ∧
    (∃ t, cpuStep (nopAt 112 true) = .next t ∧ t.sched.stop = true ∧ 114 ≤ t.sched.acc) ∧
    ∃ t, cpuStep (nopAt 111 true) = .next t ∧ t.sched.acc < 114 := 
  ⟨by decide, by decide, ⟨_, rfl, by decide⟩, ⟨_, rfl, by decide⟩, _, rfl, by decide⟩

end Sys2Proof.Tests
end

section
/-! SUPPORT. Every instruction as a run of bus accesses, register changes and cycle counts; what no instruction touches
(spec/10_state.md R29, R33). -/

namespace Sys2Proof.Machine

/-! ## Regions -/

theorem busRegion_eq_cartridge_iff (a : Addr) : busRegion a = .cartridge ↔ 0x8000 ≤ a.toNat := by
  refine ⟨fun h => ?_, busRegion_cartridge⟩
  unfold busRegion at h
  dsimp only at h
  split_ifs at h
  assumption

theorem busRegion_eq_ram_iff (a : Addr) (k : Nat) :
    busRegion a = .ram k ↔ a.toNat < 0x2000 ∧ a.toNat % 0x0800 = k := by
  constructor
  · intro h
    unfold busRegion at h
    dsimp only at h
    split_ifs at h
    exact ⟨by assumption, by simpa using h⟩
  · rintro ⟨h, rfl⟩
    exact busRegion_ram h

/-! ## What an instruction can do -/

/-- One thing a meaning of `exec` is made of: a bus read, a bus write at an address of `W`, a change of the registers that
keeps the stored Break flag, and cycles counted. -/
inductive BusMove (W : Addr → Prop) : State → State → Prop where
  | read (a : Addr) (s : State) : BusMove W s (s.busReadEffect a)
  | write (a : Addr) (v : Byte) (s : State) (h : W a) : BusMove W s (s.busWrite a v)
  | regs (f : Cpu → Cpu) (s : State) (h : (f s.cpu).f.b = s.cpu.f.b) : BusMove W s (s.mapCpu f)
  | cycles (n : Nat) (s : State) : BusMove W s (s.addCycles n)

/-- Any number of such moves. -/
abbrev BusRun (W : Addr → Prop) : State → State → Prop := Relation.ReflTransGen (BusMove W)

/-- What every move keeps, a run keeps. -/
theorem BusRun.eq_of_moves {α : Type} {W : Addr → Prop} {s t : State} (g : State → α)
    (hg : ∀ u v, BusMove W u v → g v = g u) (h : BusRun W s t) : g t = g s := by
  induction h with
  | refl => rfl
  | tail _ hm ih => exact (hg _ _ hm).trans ih

section
variable {W : Addr → Prop} {s t : State}

theorem BusRun.read (a : Addr) (h : BusRun W s t) : BusRun W s (t.busReadEffect a) := h.tail (.read a t)

theorem BusRun.write {a : Addr} (v : Byte) (ha : W a) (h : BusRun W s t) : BusRun W s (t.busWrite a v) :=
  h.tail (.write a v t ha)

theorem BusRun.regs {f : Cpu → Cpu} (hf : (f t.cpu).f.b = t.cpu.f.b) (h : BusRun W s t) : BusRun W s (t.mapCpu f) :=
  h.tail (.regs f t hf)

theorem BusRun.addCycles (n : Nat) (h : BusRun W s t) : BusRun W s (t.addCycles n) := h.tail (.cycles n t)

theorem BusRun.setPc (pc : Addr) (h : BusRun W s t) : BusRun W s (t.setPc pc) :=
  h.regs (f := fun c => { c with pc := pc }) rfl

theorem BusRun.setSp (sp : Byte) (h : BusRun W s t) : BusRun W s (t.setSp sp) :=
  h.regs (f := fun c => { c with sp := sp }) rfl

theorem BusRun.mapFlags {g : Flags → Flags} (hg : (g t.cpu.f).b = t.cpu.f.b) (h : BusRun W s t) :
    BusRun W s (t.mapFlags g) :=
  h.regs (f := fun c => { c with f := g c.f }) hg

theorem BusRun.push8 (v : Byte) (hW : ∀ sp, W (stackAddr sp)) (h : BusRun W s t) : BusRun W s (t.push8 v) :=
  (h.write v (hW _)).setSp _

theorem BusRun.push16 (w : Addr) (hW : ∀ sp, W (stackAddr sp)) (h : BusRun W s t) : BusRun W s (t.push16 w) :=
  (h.push8 _ hW).push8 _ hW

theorem BusRun.pull8 (h : BusRun W s t) : BusRun W s t.pull8.2 := (h.setSp _).read _

theorem BusRun.pull16 (h : BusRun W s t) : BusRun W s t.pull16.2 := h.pull8.pull8

theorem BusRun.enterTrap (ret : Addr) (status : Byte) (vector : Addr) (hW : ∀ sp, W (stackAddr sp)) (h : BusRun W s t) :
    BusRun W s (t.enterTrap ret status vector) := by
  have hpushed : BusRun W s ((t.push16 ret).push8 status) := (h.push16 ret hW).push8 status hW
  exact (((hpushed.mapFlags (g := fun f => { f with i := true }) rfl).read _).read _).setPc _

theorem BusRun.returnFromTrap (h : BusRun W s t) : BusRun W s t.returnFromTrap :=
  ((h.pull8.mapFlags (g := Flags.setStatus _) rfl).pull16).setPc _

end

theorem busRun_resolveMode {W : Addr → Prop} (m : Mode) (n : Nat) (s : State) : BusRun W s (resolveMode m n s).st := by
  by_cases h : m = .IND
  · subst h
    exact (BusRun.read _ .refl).read _
  · rw [resolveMode_st h]

theorem busRun_dataRead {W : Addr → Prop} (i : Instr) (s : State) : BusRun W s (dataRead i s).2 := by
  unfold dataRead
  split
  · exact .refl
  · exact (busRun_resolveMode _ _ s).read _

/-! ### The stored Break flag -/

theorem readEffect_break {m : Mnemonic} {f : Byte → Cpu → Cpu} (h : readEffect m = some f) (v : Byte) (c : Cpu) :
    (f v c).f.b = c.f.b := by
  cases m <;> simp only [readEffect, reduceCtorEq] at h <;> cases h <;> rfl

theorem registerEffect_break {m : Mnemonic} {f : Cpu → Cpu} (h : registerEffect m = some f) (c : Cpu) :
    (f c).f.b = c.f.b := by
  cases m <;> simp only [registerEffect, reduceCtorEq] at h <;> cases h <;> rfl

theorem modifyEffect_break {m : Mnemonic} {f : Byte → Flags → Byte × Flags} (h : modifyEffect m = some f) (v : Byte)
    (g : Flags) : (f v g).2.b = g.b := by
  cases m <;> simp only [modifyEffect, reduceCtorEq] at h <;> cases h <;> rfl

/-! ### Which forms store -/

theorem storesAtEa_of_store {i : Instr} {f : Cpu → Byte} (h : storedRegister i.mnemonic = some f) :
    storesAtEa i = true := by
  cases i <;> simp only [Instr.mnemonic, Instr.asm, storedRegister, reduceCtorEq] at h <;> rfl

theorem storesAtEa_of_modify {i : Instr} {f : Byte → Flags → Byte × Flags} (h : modifyEffect i.mnemonic = some f)
    (hm : i.mode ≠ .ACC) : storesAtEa i = true := by
  have hw : writesMemory i.mnemonic = true := by
    cases hi : i.mnemonic <;> simp only [hi, modifyEffect, reduceCtorEq] at h <;> rfl
  simp [storesAtEa, hw, hm]

/-- Jumps, calls, returns and the stack forms are runs too: they write the stack page alone. -/
theorem busRun_exec_control {W : Addr → Prop} (hstack : ∀ sp, W (stackAddr sp)) {i : Instr} (s : State)
    (hi : i.mnemonic ∈ [.JMP, .JSR, .RTS, .RTI, .BRK, .PHA, .PHP, .PLA, .PLP]) :
    ∃ t, exec i s = .next t ∧ BusRun W s t := by
  cases i <;> simp [Instr.mnemonic, Instr.asm] at hi
  case jmpAbs w => exact ⟨_, exec_jmpAbs w s, (BusRun.setPc _ .refl).addCycles _⟩
  case jmpInd w => exact ⟨_, exec_jmpInd w s, (((BusRun.read _ .refl).read _).setPc _).addCycles _⟩
  case jsr w => exact ⟨_, exec_jsr w s, ((BusRun.push16 _ hstack .refl).setPc _).addCycles _⟩
  case rts => exact ⟨_, exec_rts s, ((BusRun.pull16 .refl).setPc _).addCycles _⟩
  case rti => exact ⟨_, exec_rti s, (BusRun.returnFromTrap .refl).addCycles _⟩
  case brk => exact ⟨_, exec_brk s, (BusRun.enterTrap _ _ _ hstack .refl).addCycles _⟩
  case pha => exact ⟨_, exec_pha s, (BusRun.push8 _ hstack .refl).addCycles _⟩
  case php => exact ⟨_, exec_php s, (BusRun.push8 _ hstack .refl).addCycles _⟩
  case pla => exact ⟨_, exec_pla s, ((BusRun.pull8 .refl).regs (f := Cpu.lda _) rfl).addCycles _⟩
  case plp => exact ⟨_, exec_plp s, ((BusRun.pull8 .refl).mapFlags (g := Flags.setStatus _) rfl).addCycles _⟩

/-- Every instruction is a run of moves that writes nowhere but in the stack page and, if it stores, at its effective
address. -/
theorem busRun_exec {W : Addr → Prop} {i : Instr} {s t : State} (hstack : ∀ sp, W (stackAddr sp))
    (hea : storesAtEa i = true → W (ea i s).addr) (h : exec i s = .next t) : BusRun W s t := by
  suffices hrun : ∃ u, exec i s = .next u ∧ BusRun W s u by
    obtain ⟨u, hu, hrun⟩ := hrun
    rwa [← Host.Outcome.next.inj (hu.symm.trans h)]
  obtain ⟨f, hf⟩ | ⟨f, hf⟩ | ⟨f, hf⟩ | ⟨f, hf⟩ | hrel | hcontrol := instr_shape i
  · exact ⟨_, exec_read hf s, ((busRun_dataRead i s).regs (readEffect_break hf _ _)).addCycles _⟩
  · exact ⟨_, exec_store hf s, ((busRun_resolveMode _ _ s).write _ (hea (storesAtEa_of_store hf))).addCycles _⟩
  · by_cases hm : i.mode = .ACC
    · exact ⟨_, exec_accumulator hf hm s, (BusRun.regs (modifyEffect_break hf _ _) .refl).addCycles _⟩
    · refine ⟨_, exec_modify hf hm s, (((busRun_dataRead i s).write _
        (hea (storesAtEa_of_modify hf hm))).mapFlags ?_).addCycles _⟩
      rw [State.busWrite_cpu]
      exact modifyEffect_break hf _ _
  · exact ⟨_, exec_register hf s, (BusRun.regs (registerEffect_break hf _) .refl).addCycles _⟩
  · refine ⟨_, exec_branch hrel s, BusRun.addCycles _ ?_⟩
    split
    · exact BusRun.setPc _ .refl
    · exact .refl
  · exact busRun_exec_control hstack s hcontrol

/-! ## What no instruction touches -/

theorem Pads.advance_buttons (pad2 : Bool) (p : Pads) : (p.advance pad2).buttons = p.buttons := by
  cases pad2 <;> rfl

theorem Pads.strobeWrite_buttons (v : Byte) (p : Pads) : (p.strobeWrite v).buttons = p.buttons := by
  unfold Pads.strobeWrite
  dsimp only
  split <;> rfl

@[simp] theorem State.busReadEffect_buttons (a : Addr) (s : State) : (s.busReadEffect a).pads.buttons = s.pads.buttons := by
  unfold State.busReadEffect
  split <;> simp [Pads.advance_buttons]

@[simp] theorem State.busWrite_buttons (a : Addr) (v : Byte) (s : State) : (s.busWrite a v).pads.buttons = s.pads.buttons := by
  unfold State.busWrite
  split <;> simp [Pads.strobeWrite_buttons]

/-- A write below the cartridge range leaves the mapper's registers and the mirroring mode (R57). -/
theorem State.busWrite_mapper_of_lt {a : Addr} (h : a.toNat < 0x8000) (v : Byte) (s : State) :
    (s.busWrite a v).mapper = s.mapper ∧ (s.busWrite a v).mirror = s.mirror := by
  cases hregion : busRegion a with
  | cartridge => exact absurd ((busRegion_eq_cartridge_iff a).1 hregion) (by omega)
  | _ => simp [State.busWrite, hregion]

/-- The fields no instruction changes (R29, R33). -/
def untouchedByExec (s : State) :=
  (s.pend, s.nt0, s.nt1, s.cart, s.chr, s.params, s.env, s.pads.buttons, s.sched.stop, s.sched.atTop,
    s.dev.history.ppuSteps, s.cpu.f.b)

theorem BusMove.untouchedByExec_eq {W : Addr → Prop} {s t : State} (h : BusMove W s t) :
    untouchedByExec t = untouchedByExec s := by
  cases h with
  | read a => simp [untouchedByExec]
  | write a v => simp [untouchedByExec]
  | regs f _ hf => simp [untouchedByExec, hf]
  | cycles n => simp [untouchedByExec]

theorem BusMove.mapper_eq {s t : State} (h : BusMove (fun a => a.toNat < 0x8000) s t) :
    (t.mapper, t.mirror) = (s.mapper, s.mirror) := by
  cases h with
  | read a => simp
  | write a v _ ha => simp [State.busWrite_mapper_of_lt ha]
  | regs f => rfl
  | cycles n => rfl

/-- Settles O36: every instruction is a run of bus accesses and register changes, each of which keeps these fields. -/
theorem instructionFrame : Obligations.InstructionFrame := by
  intro i s t h
  have hkept : untouchedByExec t = untouchedByExec s :=
    (busRun_exec (W := fun _ => True) (fun _ => trivial) (fun _ => trivial) h).eq_of_moves _ fun _ _ =>
      BusMove.untouchedByExec_eq
  have hmapper : (storesAtEa i = false ∨ (ea i s).addr.toNat < 0x8000) → (t.mapper, t.mirror) = (s.mapper, s.mirror) := by
    intro hlow
    refine (busRun_exec (W := fun a => a.toNat < 0x8000) (fun sp => ?_) (fun hst => ?_) h).eq_of_moves
      (fun s => (s.mapper, s.mirror)) fun _ _ => BusMove.mapper_eq
    · rw [stackAddr_toNat]
      omega
    · exact hlow.resolve_left (by simp [hst])
  simp only [untouchedByExec, Prod.mk.injEq] at hkept hmapper
  tauto

end Sys2Proof.Machine
end

section
/-! SUPPORT. What one step of the machine can do, and what every step keeps: the cartridge (spec/10_state.md R41, R42) and
the invariant. -/

namespace Sys2Proof.Machine

/-! ## What one step of the machine can do -/

/-- A processor step that answers a next state enters an interrupt or executes the instruction fetched (R100). -/
theorem cpuStep_cases {s t : State} (h : cpuStep s = .next t) :
    (∃ k, s.pollInterrupts.1 = some k ∧ t = s.pollInterrupts.2.enterInterrupt k) ∨
      ∃ i, s.pollInterrupts.1 = none ∧ s.pollInterrupts.2.fetch.instr = some i ∧
        exec i s.pollInterrupts.2.fetch.st = .next t := by
  unfold cpuStep at h
  split at h
  next k u hp =>
    cases h
    exact .inl ⟨k, by rw [hp], by rw [hp]⟩
  next u hp =>
    split at h
    next op i w hf => exact .inr ⟨i, by rw [hp], by rw [hp, hf], by rwa [hp, hf]⟩
    · cases h

/-- A step that answers a next state ends the iterations that are due, or makes a processor step and what follows it; at
the top of an iteration it does so only when `stop` is clear (R275, R276). -/
theorem step_cases {s t : State} (h : step s = .next t) :
    (s.atBoundary.sched.atTop && s.atBoundary.sched.stop) = false ∧
      (114 ≤ s.atBoundary.sched.acc ∧ t = s.atBoundary.settle ∨
        ∃ u, cpuStep { s.atBoundary with sched := { s.atBoundary.sched with atTop := false } } = .next u ∧
          t = u.endOfStep) := by
  unfold step schedulerStep at h
  dsimp only at h
  split at h
  · cases h
  next htop =>
    refine ⟨by simpa using htop, ?_⟩
    split at h
    next hacc =>
      cases h
      exact .inl ⟨hacc, rfl⟩
    · split at h
      next u hu =>
        cases h
        exact .inr ⟨u, hu, rfl⟩
      all_goals cases h

/-! ## Every step keeps the stores and the cartridge -/

theorem BusMove.keeps {W : Addr → Prop} {s t : State} (h : BusMove W s t) : Keeps s t := by
  cases h with
  | read a => exact keeps_read a s
  | write a v => exact keeps_write a v s
  | regs f _ hf => exact keeps_mapCpu s f hf
  | cycles n => exact keeps_addCycles n s

theorem BusRun.keeps {W : Addr → Prop} {s t : State} (h : BusRun W s t) : Keeps s t := by
  induction h with
  | refl => exact Keeps.refl s
  | tail _ hm ih => exact ih.trans hm.keeps

theorem keeps_exec {i : Instr} {s t : State} (h : exec i s = .next t) : Keeps s t :=
  (busRun_exec (W := fun _ => True) (fun _ => trivial) (fun _ => trivial) h).keeps

theorem keeps_fetchByte (s : State) : Keeps s s.fetchByte.2 := (keeps_read _ _).trans (keeps_setPc _ _)

theorem keeps_fetchBytes (n : Nat) (s : State) : Keeps s (State.fetchBytes n s).2 := by
  induction n generalizing s with
  | zero => exact Keeps.refl s
  | succ n ih => exact (keeps_fetchByte s).trans (ih _)

theorem keeps_fetch (s : State) : Keeps s s.fetch.st := by
  unfold State.fetch
  dsimp only
  split
  · exact keeps_fetchByte s
  · split <;> exact (keeps_fetchByte s).trans (keeps_fetchBytes _ _)

theorem keeps_pollInterrupts (s : State) : Keeps s s.pollInterrupts.2 := by
  unfold State.pollInterrupts
  split_ifs <;> exact Keeps.of_eq rfl rfl rfl rfl rfl rfl rfl rfl rfl rfl

theorem keeps_serviceReset (s : State) : Keeps s s.serviceReset := by
  rw [State.serviceReset_eq]
  exact ⟨fun c => { c with breakClear := rfl }, rfl, rfl, rfl, fun _ => rfl⟩

theorem keeps_enterInterrupt (k : Interrupt) (s : State) : Keeps s (s.enterInterrupt k) := by
  cases k with
  | reset => exact (keeps_serviceReset s).trans (keeps_addCycles 7 _)
  | nmi => exact (keeps_enterTrap _ _ s (by decide) (by decide)).trans (keeps_addCycles 7 _)
  | irq => exact (keeps_enterTrap _ _ s (by decide) (by decide)).trans (keeps_addCycles 7 _)

theorem keeps_cpuStep {s t : State} (h : cpuStep s = .next t) : Keeps s t := by
  obtain ⟨k, -, rfl⟩ | ⟨i, -, -, hexec⟩ := cpuStep_cases h
  · exact (keeps_pollInterrupts s).trans (keeps_enterInterrupt k _)
  · exact (keeps_pollInterrupts s).trans ((keeps_fetch _).trans (keeps_exec hexec))

/-! ### The external agents' moves -/

/-- A change of the record, the scheduler or the agents' lists alone keeps everything. -/
theorem keeps_bookkeeping (s : State) (sched : Sched) (dev : Dev) (env : Env) :
    Keeps s { s with sched := sched, dev := dev, env := env } :=
  Keeps.of_eq rfl rfl rfl rfl rfl rfl rfl rfl rfl rfl

theorem keeps_ppuCalls (cs : List PpuCall) (s : State) : Keeps s (s.ppuCalls cs) := by
  induction cs generalizing s with
  | nil => exact Keeps.refl s
  | cons c cs ih => exact (keeps_ppuCall c s).trans (ih _)

theorem keeps_hookCall (h : Option Addr) (s : State) : Keeps s (s.hookCall h) := by
  cases h with
  | none => exact Keeps.refl s
  | some a => exact (keeps_hook a s).trans (keeps_bookkeeping ..)

theorem keeps_runDot (d : Dot) (s : State) : Keeps s (s.runDot d) :=
  (keeps_ppuCalls _ _).trans ((keeps_hookCall _ _).trans (keeps_ppuCalls _ _))

theorem keeps_runDots (ds : List Dot) (s : State) : Keeps s (s.runDots ds) := by
  induction ds generalizing s with
  | nil => exact Keeps.refl s
  | cons d ds ih => exact (keeps_runDot d s).trans (ih _)

theorem keeps_ppuSteps (n : Nat) (s : State) : Keeps s (s.ppuSteps n) := by
  induction n generalizing s with
  | zero => exact Keeps.refl s
  | succ n ih =>
    unfold State.ppuSteps
    split
    · exact Keeps.refl s
    · exact (keeps_bookkeeping ..).trans ((keeps_runDot _ _).trans (ih _))

theorem keeps_pictureBatch (s : State) : Keeps s s.pictureBatch :=
  (keeps_ppuSteps 341 s).trans (keeps_bookkeeping ..)

theorem keeps_reactions (s : State) : Keeps s s.reactions := by
  unfold State.reactions
  split
  · split
    · exact Keeps.refl s
    · exact (keeps_bookkeeping ..).trans (keeps_runDots _ _)
  · exact Keeps.refl s

theorem keeps_oamReadList (page : Byte) (is : List Byte) (s : State) : Keeps s (State.oamReadList page is s) := by
  induction is generalizing s with
  | nil => exact Keeps.refl s
  | cons i is ih => exact (keeps_read _ s).trans ((keeps_bookkeeping ..).trans (ih _))

theorem keeps_oamDma (s : State) : Keeps s s.oamDma := by
  unfold State.oamDma
  split
  · exact Keeps.refl s
  · split
    · exact Keeps.refl s
    · exact (keeps_bookkeeping ..).trans (keeps_oamReadList _ _ _)

theorem keeps_runIterations (n : Nat) (s : State) : Keeps s (s.runIterations n) := by
  induction n generalizing s with
  | zero => exact Keeps.refl s
  | succ n ih =>
    unfold State.runIterations
    dsimp only
    split_ifs
    · exact Keeps.refl s
    · exact (keeps_pictureBatch s).trans (keeps_bookkeeping ..)
    · exact (keeps_pictureBatch s).trans ((keeps_bookkeeping ..).trans (ih _))

theorem keeps_settle (s : State) : Keeps s s.settle := keeps_runIterations _ s

theorem keeps_endOfStep (s : State) : Keeps s s.endOfStep :=
  (keeps_reactions s).trans ((keeps_oamDma _).trans ((keeps_bookkeeping ..).trans (keeps_settle _)))

theorem keeps_boundaryCalls (cs : List BoundaryCall) (s : State) : Keeps s (s.boundaryCalls cs) := by
  induction cs generalizing s with
  | nil => exact Keeps.refl s
  | cons c cs ih => exact (keeps_boundaryCall c s).trans (ih _)

theorem keeps_atBoundary (s : State) : Keeps s s.atBoundary := by
  unfold State.atBoundary
  split
  · exact Keeps.refl s
  · exact (keeps_bookkeeping ..).trans (keeps_boundaryCalls _ _)

theorem keeps_step {s t : State} (h : step s = .next t) : Keeps s t := by
  obtain ⟨-, ⟨-, rfl⟩ | ⟨u, hu, rfl⟩⟩ := step_cases h
  · exact (keeps_atBoundary s).trans (keeps_settle _)
  · exact (keeps_atBoundary s).trans ((keeps_bookkeeping ..).trans ((keeps_cpuStep hu).trans (keeps_endOfStep u)))

/-- Settles O11: `keeps_step` without its clause on the stores. -/
theorem stepKeepsTheCartridge : Obligations.StepKeepsTheCartridge := by
  intro s t h
  obtain ⟨-, hcart, hparams, hvariant, hchr⟩ := keeps_step h
  exact ⟨hcart, hparams, hvariant, hchr⟩

/-! ## Every step keeps the invariant -/

/-- The invariant: the stores and counters, the bound on the cycles outstanding, no access outstanding. -/
theorem State.inv_iff (s : State) :
    s.Inv ↔ StoresWf s ∧ (s.sched.acc < 114 ∨ (s.sched.atTop = true ∧ s.sched.stop = true)) ∧
      s.dev.ppuTouched = false ∧ s.dev.oamPage = none := by
  constructor
  · intro h
    exact ⟨{ h with }, h.accBound, h.untouched, h.noOam⟩
  · rintro ⟨hstores, hacc, htouched, hoam⟩
    exact { hstores with accBound := hacc, untouched := htouched, noOam := hoam }

/-- The state in which the next iteration begins: a picture batch made, 114 cycles taken off (R275). -/
def State.nextIteration (s : State) : State :=
  { s.pictureBatch with
    sched := { s.pictureBatch.sched with acc := s.pictureBatch.sched.acc - 114, atTop := true } }

theorem State.runIterations_succ (n : Nat) (s : State) :
    s.runIterations (n + 1) =
      if s.sched.acc < 114 then s
      else if s.nextIteration.sched.stop then s.nextIteration else s.nextIteration.runIterations n := rfl

@[simp] theorem State.nextIteration_sched (s : State) :
    s.nextIteration.sched = { s.sched with acc := s.sched.acc - 114, atTop := true } := by
  have h : s.pictureBatch.sched = s.sched := (pictureFrame_ppuSteps 341 s).sched
  simp [State.nextIteration, h]

@[simp] theorem State.nextIteration_ppuTouched (s : State) : s.nextIteration.dev.ppuTouched = s.dev.ppuTouched :=
  (pictureFrame_ppuSteps 341 s).ppuTouched

@[simp] theorem State.nextIteration_oamPage (s : State) : s.nextIteration.dev.oamPage = s.dev.oamPage :=
  (pictureFrame_ppuSteps 341 s).oamPage

/-- Enough iterations bring the accumulator below 114, unless `stop` ends the run at the top of one (R275, R276). -/
theorem State.runIterations_accBound (n : Nat) (s : State) (h : s.sched.acc < 114 * (n + 1)) :
    (s.runIterations n).sched.acc < 114 ∨
      ((s.runIterations n).sched.atTop = true ∧ (s.runIterations n).sched.stop = true) := by
  induction n generalizing s with
  | zero => exact .inl h
  | succ n ih =>
    rw [State.runIterations_succ]
    split_ifs with hacc hstop
    · exact .inl hacc
    · exact .inr ⟨by simp, hstop⟩
    · refine ih _ ?_
      simp only [State.nextIteration_sched]
      omega

theorem State.settle_accBound (s : State) :
    s.settle.sched.acc < 114 ∨ (s.settle.sched.atTop = true ∧ s.settle.sched.stop = true) :=
  State.runIterations_accBound _ s (by omega)

theorem State.runIterations_marks (n : Nat) (s : State) :
    (s.runIterations n).dev.ppuTouched = s.dev.ppuTouched ∧ (s.runIterations n).dev.oamPage = s.dev.oamPage := by
  induction n generalizing s with
  | zero => exact ⟨rfl, rfl⟩
  | succ n ih =>
    rw [State.runIterations_succ]
    split_ifs <;> simp [ih]

theorem State.boundaryCalls_dev (cs : List BoundaryCall) (s : State) : (s.boundaryCalls cs).dev = s.dev := by
  induction cs generalizing s with
  | nil => rfl
  | cons c cs ih => cases c <;> exact ih _

theorem State.atBoundary_dev (s : State) : s.atBoundary.dev = s.dev := by
  unfold State.atBoundary
  split
  · rfl
  · exact State.boundaryCalls_dev _ _

/-- Settles O9: the stores by `keeps_step`, the cycles outstanding by what settling leaves, the marks of the running step
because the end of a step clears them and nothing else between steps sets them. -/
theorem stepKeepsInvariant : Obligations.StepKeepsInvariant := by
  intro s t hs hstep
  rw [State.inv_iff] at hs ⊢
  obtain ⟨hstores, -, htouched, hoam⟩ := hs
  refine ⟨(keeps_step hstep).wf hstores, ?_⟩
  obtain ⟨-, ⟨-, rfl⟩ | ⟨u, -, rfl⟩⟩ := step_cases hstep
  · obtain ⟨ht, ho⟩ := State.runIterations_marks (s.atBoundary.sched.acc / 114) s.atBoundary
    rw [State.atBoundary_dev] at ht ho
    exact ⟨State.settle_accBound _, ht.trans htouched, ho.trans hoam⟩
  · exact ⟨State.settle_accBound _, State.runIterations_marks _ _⟩

end Sys2Proof.Machine
end

section
/-! SUPPORT. Power-on and a serviced Reset (spec/10_state.md R44, spec/60_exceptions.md R255). -/

namespace Sys2Proof.Machine

/-! ## Power-on and Reset -/

/-- The machine at power-on before PC is read from the vector (R44, R351). -/
def State.beforeVector (im : Image) (ram : RamInit) (p : Params) (env : Env) : State :=
  { cpu := Cpu.powerOn 0#16
    pend := { reset := false, nmi := false, irq := false }
    mem := ram.mem, nt0 := ram.nt0, nt1 := ram.nt1
    mirror := if im.cart.vertical then .vertical else .horizontal
    pads := { buttons := 0#16, strobe := false, rd0 := 0, rd1 := 0 }
    mapper := MapperState.atLoad p im.variant
    cart := im.cart
    chr := if im.cart.chr8 = 0 then ram.chrRam else im.chrRom
    params := p
    sched := { acc := 0, stop := false, atTop := true }
    dev := { history := { events := [], ppuSteps := 0 }, ppuTouched := false, oamPage := none }
    env := env }

/-- The vector's read has no effect, so power-on leaves that machine with PC set. -/
theorem State.powerOn_eq (im : Image) (ram : RamInit) (p : Params) (env : Env) :
    State.powerOn im ram p env =
      (State.beforeVector im ram p env).setPc (vectorAt 0xFFFC#16 (State.beforeVector im ram p env)) := by
  have hrun : State.powerOn im ram p env =
      ((State.beforeVector im ram p env).busRead16 0xFFFC#16).2.setPc
        ((State.beforeVector im ram p env).busRead16 0xFFFC#16).1 := rfl
  rw [hrun, State.busRead16_vector _ (by decide) (by decide)]

@[simp] theorem vectorAt_setPc (a pc : Addr) (s : State) : vectorAt a (s.setPc pc) = vectorAt a s := rfl

theorem Cpu.powerOn_pack (pc : Addr) : (Cpu.powerOn pc).f.pack = 0x24#8 := by
  simp [Cpu.powerOn, Flags.pack, bitNat]

/-- Reset service with its 7 cycles changes the processor's registers and the accumulator alone (R255). -/
theorem State.enterInterrupt_reset (s : State) :
    s.enterInterrupt .reset =
      { s with
        cpu := Cpu.powerOn (vectorAt 0xFFFC#16 s), sched := { s.sched with acc := s.sched.acc + 7 } } := by
  simp only [State.enterInterrupt, State.serviceReset_eq]
  rfl

/-- A pending Reset is serviced before anything else, and its mark is cleared (R254). -/
theorem cpuStep_of_reset {s : State} (h : s.pend.reset = true) :
    cpuStep s = .next (State.enterInterrupt .reset { s with pend := { s.pend with reset := false } }) := by
  simp [cpuStep, State.pollInterrupts, h]

/-- Settles O6: power-on leaves `State.beforeVector` with PC set, and Reset service is `State.enterInterrupt_reset`. -/
theorem powerOnAndServicedReset : Obligations.PowerOnAndServicedReset := by
  refine ⟨fun im ram p env => ?_, fun s => s.enterInterrupt_reset, fun s hs => ?_⟩
  · rw [State.powerOn_eq]
    refine ⟨rfl, Cpu.powerOn_pack _, rfl, rfl, fun h => if_neg h, rfl, rfl, rfl, fun h => if_pos h, rfl, ?_, rfl, rfl, rfl⟩
    change MapperState.atLoad p im.variant = _
    cases im.variant <;> rfl
  · rw [cpuStep_of_reset hs, State.enterInterrupt_reset]
    rfl

/-- An image whose arrays have the length its header gives. -/
structure Image.Wf (im : Image) : Prop where
  prgBank : 1 ≤ im.cart.prg16
  prgWf : im.cart.prg.wf = true
  prgKeys : im.cart.prg.keysIn (fun a => decide (a < im.cart.prgLength)) = true
  chrWf : im.chrRom.wf = true
  chrKeys : im.cart.chr8 ≠ 0 → im.chrRom.keysIn (fun a => decide (a < im.cart.chrLength)) = true

theorem loadImage_wf {image : List Byte} {im : Image} (h : loadImage image = .ok im) : im.Wf := by
  obtain ⟨-, hprg, -, variant, -, rfl⟩ := (loadImage_ok_iff image im).1 h
  constructor
  case prgBank => exact Nat.one_le_iff_ne_zero.2 hprg
  case prgWf => exact wfFrom_memoryFrom _ 0
  case prgKeys =>
    refine keysIn_memoryFrom _ 0 _ ?_
    simp [imageOf, Cart.prgLength]
  case chrWf => exact wfFrom_memoryFrom _ 0
  case chrKeys =>
    intro hchr
    refine keysIn_memoryFrom _ 0 _ ?_
    rw [Cart.chrLength, if_neg hchr]
    simp [imageOf]

/-- No variant's load-time registers hold a bit in the MMC1 buffer (R312). -/
theorem MapperState.atLoad_mmc1Count {p : Params} {v : Variant} {r : Mmc1} (h : MapperState.atLoad p v = .mmc1 r) :
    r.count ≤ 4 := by
  cases v <;> cases h
  exact Nat.zero_le 4

theorem State.powerOn_inv {im : Image} {ram : RamInit} (him : im.Wf) (hram : ram.Wf) (p : Params) (env : Env) :
    (State.powerOn im ram p env).Inv := by
  rw [State.powerOn_eq]
  constructor
  case memWf => exact hram.memWf
  case memKeys => exact hram.memKeys
  case nt0Wf => exact hram.nt0Wf
  case nt0Keys => exact hram.nt0Keys
  case nt1Wf => exact hram.nt1Wf
  case nt1Keys => exact hram.nt1Keys
  case prgBank => exact him.prgBank
  case prgWf => exact him.prgWf
  case prgKeys => exact him.prgKeys
  case chrWf => by_cases hchr : im.cart.chr8 = 0 <;> simp [State.beforeVector, hchr, hram.chrWf, him.chrWf]
  case chrKeys =>
    by_cases hchr : im.cart.chr8 = 0
    · simpa [State.beforeVector, Cart.chrLength, hchr] using hram.chrKeys
    · simpa [State.beforeVector, hchr] using him.chrKeys hchr
  case mmc1Count => exact fun _ => MapperState.atLoad_mmc1Count
  all_goals simp [State.beforeVector, Cpu.powerOn]

/-- Settles O8: the loader's arrays and RAM_INIT are in canonical form, and power-on adds no write to them. -/
theorem powerOnSatisfiesInvariant : Obligations.PowerOnSatisfiesInvariant :=
  fun _ _ _ p env hload hram => State.powerOn_inv (loadImage_wf hload) hram p env

/-- Settles O7: the reset state is a powered-on machine. -/
theorem resetSatisfiesInvariant : Obligations.ResetSatisfiesInvariant := by
  unfold Obligations.ResetSatisfiesInvariant
  rw [reset_eq_powerOn]
  refine State.powerOn_inv ?_ ?_ _ _ <;> constructor <;> decide

end Sys2Proof.Machine
end

section
/-! SUPPORT. The bytes the pushing forms change (spec/10_state.md R24, spec/20_memory.md R72). -/

namespace Sys2Proof.Machine

/-! ## Pushed bytes -/

/-- Pushing leaves every byte of storage but those in page 1 from the stack pointer down, wrapping in the page (R24). -/
theorem read_afterPushes (vs : List Byte) (s : State) {a : Nat}
    (h : ∀ k, k < vs.length → a ≠ 0x0100 + (s.cpu.sp - BitVec.ofNat 8 k).toNat) :
    (afterPushes vs s).mem.read a = s.mem.read a := by
  induction vs generalizing s with
  | nil => rfl
  | cons v vs ih =>
    have hfirst : a ≠ 0x0100 + s.cpu.sp.toNat := by simpa using h 0 (Nat.zero_lt_succ _)
    rw [afterPushes, ih]
    · exact Memory.read_write_other _ _ hfirst.symm
    · intro k hk
      have hshift : s.cpu.sp - 1#8 - BitVec.ofNat 8 k = s.cpu.sp - BitVec.ofNat 8 (k + 1) := by
        rw [BitVec.ofNat_add]
        bv_omega
      rw [hshift]
      exact h (k + 1) (Nat.succ_lt_succ hk)

/-- So does what an address holds, through any mirror of RAM (R58). -/
theorem peek_afterPushes (vs : List Byte) (s : State) {b : Addr}
    (h : 0x2000 ≤ b.toNat ∨ ∀ k, k < vs.length → b.toNat % 0x0800 ≠ 0x0100 + (s.cpu.sp - BitVec.ofNat 8 k).toNat) :
    (afterPushes vs s).peek b = s.peek b := by
  unfold State.peek
  cases hb : busRegion b with
  | ram off =>
    obtain ⟨hlt, rfl⟩ := (busRegion_eq_ram_iff b off).1 hb
    exact congrArg some (read_afterPushes vs s (h.resolve_left (by omega)))
  | plain a =>
    have ha := plain_of_busRegion hb
    exact congrArg some (read_afterPushes vs s fun k _ => by omega)
  | cartridge => simp
  | _ => rfl

/-- What a pushing form does: its bytes pushed, then registers other than S, and cycles (R202, R221, R223, R233). -/
theorem exec_push {i : Instr} (h : 0 < pushCount i) (s : State) :
    ∃ (vs : List Byte) (f : Cpu → Cpu) (n : Nat), vs.length = pushCount i ∧ (∀ c, (f c).sp = c.sp) ∧
      exec i s = .next (((afterPushes vs s).mapCpu f).addCycles n) := by
  cases i <;> simp [pushCount, Instr.mnemonic, Instr.asm] at h
  case pha => exact ⟨[s.cpu.a], id, 3, rfl, fun _ => rfl, by rw [exec_pha, State.push8_eq]; rfl⟩
  case php => exact ⟨[s.cpu.f.pushedByBreak], id, 3, rfl, fun _ => rfl, by rw [exec_php, State.push8_eq]; rfl⟩
  case jsr w =>
    refine ⟨[highByte (s.cpu.pc - 1#16), lowByte (s.cpu.pc - 1#16)], fun c => { c with pc := w }, 6, rfl,
      fun _ => rfl, ?_⟩
    rw [exec_jsr, State.push16_eq]
    rfl
  case brk =>
    refine ⟨[highByte (s.cpu.pc + 1#16), lowByte (s.cpu.pc + 1#16), s.cpu.f.pushedByBreak],
      fun c => { c with pc := vectorAt 0xFFFE#16 s, f := { s.cpu.f with i := true } }, 7, rfl, fun _ => rfl, ?_⟩
    rw [exec_brk, State.enterTrap_eq _ _ _ (by decide) (by decide)]
    rfl

@[simp] theorem State.peek_mapCpu (f : Cpu → Cpu) (b : Addr) (s : State) : (s.mapCpu f).peek b = s.peek b := rfl

@[simp] theorem State.peek_addCycles (n : Nat) (b : Addr) (s : State) : (s.addCycles n).peek b = s.peek b := rfl

/-- Settles O39: a pushing form is its pushes, then a change of registers other than S. -/
theorem pushingFormsChangeTheirStackBytes : Obligations.PushingFormsChangeTheirStackBytes := by
  intro i s t b h hpush
  obtain ⟨vs, f, n, hlen, hsp, hexec⟩ := exec_push hpush s
  rw [← Host.Outcome.next.inj (hexec.symm.trans h), ← hlen]
  refine ⟨?_, fun hb => ?_⟩
  · simp [hsp]
  · simpa using peek_afterPushes vs s hb

end Sys2Proof.Machine
end

section
/-! SUPPORT. The flags: ADC and SBC do not read D (spec/10_state.md R30), and the status byte (R27, R28). -/

namespace Sys2Proof.Machine

/-! ## The Decimal flag -/

theorem State.busValue_mapFlags (g : Flags → Flags) (a : Addr) (s : State) : (s.mapFlags g).busValue a = s.busValue a :=
  State.busValue_congr a rfl rfl rfl rfl rfl

theorem State.busReadEffect_mapFlags (g : Flags → Flags) (a : Addr) (s : State) :
    (s.mapFlags g).busReadEffect a = (s.busReadEffect a).mapFlags g := by
  unfold State.busReadEffect
  rw [State.busValue_mapFlags]
  split <;> rfl

/-- Finding the effective address reads no flag and changes none. -/
theorem resolveMode_mapFlags (g : Flags → Flags) (m : Mode) (n : Nat) (s : State) :
    resolveMode m n (s.mapFlags g) =
      ⟨(resolveMode m n s).addr, (resolveMode m n s).crossed, (resolveMode m n s).st.mapFlags g⟩ := by
  cases m
  case IND =>
    simp [resolveMode, eaInd, State.busRead16Wrapped, State.busValue_mapFlags, State.busReadEffect_mapFlags]
  case IZX => simp [resolveMode, eaIzx]
  case IZY => simp [resolveMode, eaIzy]
  all_goals rfl

theorem ea_mapFlags (g : Flags → Flags) (i : Instr) (s : State) :
    ea i (s.mapFlags g) = ⟨(ea i s).addr, (ea i s).crossed, (ea i s).st.mapFlags g⟩ :=
  resolveMode_mapFlags g i.mode i.operand s

theorem dataRead_mapFlags (g : Flags → Flags) (i : Instr) (s : State) :
    dataRead i (s.mapFlags g) = ((dataRead i s).1, (dataRead i s).2.mapFlags g) := by
  unfold dataRead
  split
  · rfl
  · simp [State.busRead, ea_mapFlags, State.busValue_mapFlags, State.busReadEffect_mapFlags]

/-- Only a branch's cost depends on the flags. -/
theorem cycleCost_mapFlags (g : Flags → Flags) {i : Instr} (h : ∀ f, branchTaken i f = false) (s : State) :
    cycleCost i (s.mapFlags g) = cycleCost i s := by
  simp [cycleCost, ea_mapFlags, h]

theorem branchTaken_of_read {i : Instr} {f : Byte → Cpu → Cpu} (h : readEffect i.mnemonic = some f) (g : Flags) :
    branchTaken i g = false := by
  unfold branchTaken
  cases hi : i.mnemonic <;> simp only [hi, readEffect, reduceCtorEq] at h <;> rfl

/-- A reading form whose effect commutes with a change of the flags commutes with it. -/
theorem exec_read_mapFlags {i : Instr} {f : Byte → Cpu → Cpu} (hf : readEffect i.mnemonic = some f)
    (g : Flags → Flags) (hg : ∀ v c, f v { c with f := g c.f } = { f v c with f := g (f v c).f }) (s : State) :
    ∃ t, exec i s = .next t ∧ exec i (s.mapFlags g) = .next (t.mapFlags g) := by
  refine ⟨_, exec_read hf s, ?_⟩
  rw [exec_read hf, dataRead_mapFlags, cycleCost_mapFlags g (branchTaken_of_read hf)]
  simp [State.mapFlags, State.mapCpu, State.addCycles, hg]

/-- ADC reads C alone of the flags and writes C, Z, V and N (R30, R161). -/
theorem Cpu.adc_decimal (d : Bool) (m : Byte) (c : Cpu) :
    Cpu.adc m { c with f := { c.f with d := d } } = { Cpu.adc m c with f := { (Cpu.adc m c).f with d := d } } := by
  simp [Cpu.adc, Flags.setSum, Flags.setZN]

/-- SBC reads C alone of the flags and writes C, Z, V and N (R30, R162). -/
theorem Cpu.sbc_decimal (d : Bool) (m : Byte) (c : Cpu) :
    Cpu.sbc m { c with f := { c.f with d := d } } = { Cpu.sbc m c with f := { (Cpu.sbc m c).f with d := d } } := by
  simp [Cpu.sbc, Flags.setSum, Flags.setZN]

/-- Settles O15: neither the operand's address nor the sum reads D. -/
theorem decimalFlagChangesNoArithmetic : Obligations.DecimalFlagChangesNoArithmetic := by
  rintro i s d (h | h)
  · exact exec_read_mapFlags (f := Cpu.adc) (by rw [h]; rfl) (fun f => { f with d := d }) (Cpu.adc_decimal d) s
  · exact exec_read_mapFlags (f := Cpu.sbc) (by rw [h]; rfl) (fun f => { f with d := d }) (Cpu.sbc_decimal d) s

/-! ## The status byte -/

theorem bitNat_le_one (b : Bool) : bitNat b ≤ 1 := by cases b <;> decide

theorem getLsbD_eq_of_bitNat {v : Byte} {k : Nat} {b : Bool} (h : v.toNat / 2 ^ k % 2 = bitNat b) : v.getLsbD k = b := by
  rw [← BitVec.testBit_toNat, Nat.testBit_eq_decide_div_mod_eq, h]
  cases b <;> rfl

theorem Flags.pack_toNat (f : Flags) :
    f.pack.toNat =
      bitNat f.n * 128 + bitNat f.v * 64 + 32 + bitNat f.b * 16 + bitNat f.d * 8 + bitNat f.i * 4 + bitNat f.z * 2 +
        bitNat f.c := by
  have := bitNat_le_one f.n; have := bitNat_le_one f.v; have := bitNat_le_one f.b; have := bitNat_le_one f.d
  have := bitNat_le_one f.i; have := bitNat_le_one f.z; have := bitNat_le_one f.c
  rw [Flags.pack, BitVec.toNat_ofNat]
  omega

/-- The bits of the status byte (R27, R28). -/
theorem Flags.pack_getLsbD (f : Flags) :
    f.pack.getLsbD 0 = f.c ∧ f.pack.getLsbD 1 = f.z ∧ f.pack.getLsbD 2 = f.i ∧ f.pack.getLsbD 3 = f.d ∧
      f.pack.getLsbD 4 = f.b ∧ f.pack.getLsbD 5 = true ∧ f.pack.getLsbD 6 = f.v ∧ f.pack.getLsbD 7 = f.n := by
  have := f.pack_toNat
  have := bitNat_le_one f.n; have := bitNat_le_one f.v; have := bitNat_le_one f.b; have := bitNat_le_one f.d
  have := bitNat_le_one f.i; have := bitNat_le_one f.z; have := bitNat_le_one f.c
  have htrue : bitNat true = 1 := rfl
  refine ⟨?_, ?_, ?_, ?_, ?_, ?_, ?_, ?_⟩ <;> exact getLsbD_eq_of_bitNat (by omega)

theorem Flags.setStatus_pack (f : Flags) : Flags.setStatus f.pack f = f := by
  obtain ⟨hc, hz, hi, hd, -, -, hv, hn⟩ := f.pack_getLsbD
  simp only [Flags.setStatus, hc, hz, hi, hd, hv, hn]

/-- A pulled byte's bit 5 is discarded (R28). -/
theorem Flags.setStatus_bit5 (v : Byte) (f : Flags) : Flags.setStatus (v ^^^ 0x20#8) f = Flags.setStatus v f := by
  simp [Flags.setStatus]

/-- Settles O12: each bit of the status byte by the arithmetic of R27. -/
theorem statusByteLayout : Obligations.StatusByteLayout := by
  refine ⟨Cpu.powerOn_pack _, fun f => ⟨?_, ?_, fun v => f.setStatus_bit5 v, f.setStatus_pack⟩⟩
  · rw [Flags.pack_toNat]
    simp [bitNat]
  · obtain ⟨-, -, -, -, -, h5, -, -⟩ := f.pack_getLsbD
    exact h5

end Sys2Proof.Machine
end

section
/-! SUPPORT. The bus by region: what a read answers and changes (spec/20_memory.md R56), what a write changes (R57), and
the one byte behind the four mirrors of internal RAM (R58). -/

namespace Sys2Proof.Machine

/-! ## Regions of the device page -/

/-- The address of a controller port (R61). -/
def portAddr (pad2 : Bool) : Addr := if pad2 then 0x4017#16 else 0x4016#16

theorem busRegion_eq_pad_iff (a : Addr) (pad2 : Bool) : busRegion a = .pad pad2 ↔ a = portAddr pad2 := by
  constructor
  · intro h
    unfold busRegion at h
    dsimp only at h
    split_ifs at h
    all_goals
      cases h
      exact BitVec.eq_of_toNat_eq (by assumption)
  · rintro rfl
    cases pad2 <;> rfl

@[simp] theorem busRegion_portAddr (pad2 : Bool) : busRegion (portAddr pad2) = .pad pad2 :=
  (busRegion_eq_pad_iff _ _).2 rfl

theorem busRegion_apuReg {a : Addr} (h : 0x4000 ≤ a.toNat) (h' : a.toNat < 0x4020) (hdma : a.toNat ≠ 0x4014)
    (hpad1 : a.toNat ≠ 0x4016) (hpad2 : a.toNat ≠ 0x4017) : busRegion a = .apuReg a.toNat := by
  unfold busRegion
  dsimp only
  rw [if_neg (by omega), if_neg hdma, if_neg hpad1, if_neg hpad2, if_pos (by omega)]

/-! ## Reads and writes by region -/

section
variable {a : Addr} (s : State)

theorem State.busRead_ram {off : Nat} (h : busRegion a = .ram off) : s.busRead a = (s.mem.read off, s) := by
  simp only [State.busRead, State.busValue, State.busReadEffect, h]

theorem State.busRead_plain {k : Nat} (h : busRegion a = .plain k) : s.busRead a = (s.mem.read k, s) := by
  simp only [State.busRead, State.busValue, State.busReadEffect, h]

theorem State.busRead_cartridge (h : busRegion a = .cartridge) :
    s.busRead a = (mapperRead s.cart s.mapper a, s) := by
  simp only [State.busRead, State.busValue, State.busReadEffect, h]

theorem State.busRead_ppuReg {n : Nat} (h : busRegion a = .ppuReg n) :
    s.busRead a =
      (Config.deviceRead .ppu n s.dev.history,
        (s.record (.devRead .ppu n (Config.deviceRead .ppu n s.dev.history))).touchPpu) := by
  simp only [State.busRead, State.busValue, State.busReadEffect, h]

theorem State.busRead_oamDma (h : busRegion a = .oamDma) :
    s.busRead a =
      (Config.deviceRead .ppu 0x14 s.dev.history,
        (s.record (.devRead .ppu 0x14 (Config.deviceRead .ppu 0x14 s.dev.history))).touchPpu) := by
  simp only [State.busRead, State.busValue, State.busReadEffect, h]

theorem State.busRead_apuReg {n : Nat} (h : busRegion a = .apuReg n) :
    s.busRead a =
      (Config.deviceRead .apu n s.dev.history,
        s.record (.devRead .apu n (Config.deviceRead .apu n s.dev.history))) := by
  simp only [State.busRead, State.busValue, State.busReadEffect, h]

theorem State.busRead_pad {pad2 : Bool} (h : busRegion a = .pad pad2) :
    s.busRead a = (s.pads.answer pad2, { s with pads := s.pads.advance pad2 }) := by
  simp only [State.busRead, State.busValue, State.busReadEffect, h]

variable (v : Byte)

theorem State.busWrite_ram {off : Nat} (h : busRegion a = .ram off) :
    s.busWrite a v = { s with mem := s.mem.write off v } := by
  simp only [State.busWrite, h]

theorem State.busWrite_plain {k : Nat} (h : busRegion a = .plain k) :
    s.busWrite a v = { s with mem := s.mem.write k v } := by
  simp only [State.busWrite, h]

theorem State.busWrite_cartridge (h : busRegion a = .cartridge) : s.busWrite a v = s.mapperWrite a v := by
  simp only [State.busWrite, h]

theorem State.busWrite_ppuReg {n : Nat} (h : busRegion a = .ppuReg n) :
    s.busWrite a v = (s.record (.devWrite .ppu n v)).touchPpu := by
  simp only [State.busWrite, h]

theorem State.busWrite_oamDma (h : busRegion a = .oamDma) :
    s.busWrite a v =
      { s with
        dev := { ((s.record (.devWrite .ppu 0x14 v)).touchPpu).dev with oamPage := some v }
        sched := { s.sched with acc := s.sched.acc + Config.oamDmaStall } } := by
  simp only [State.busWrite, h]
  rfl

theorem State.busWrite_apuReg {n : Nat} (h : busRegion a = .apuReg n) :
    s.busWrite a v = s.record (.devWrite .apu n v) := by
  simp only [State.busWrite, h]

theorem State.busWrite_pad {pad2 : Bool} (h : busRegion a = .pad pad2) :
    s.busWrite a v = { s with pads := s.pads.strobeWrite v } := by
  simp only [State.busWrite, h]

/-- The byte written to internal RAM or plain storage is the byte held there. -/
theorem State.peek_busWrite_same (hwf : s.mem.wf = true)
    (ha : a.toNat < 0x2000 ∨ (0x4020 ≤ a.toNat ∧ a.toNat < 0x8000)) : (s.busWrite a v).peek a = some v := by
  obtain h | ⟨h, h'⟩ := ha
  · simp [State.peek, State.busWrite, busRegion_ram h, Memory.read_write_same hwf]
  · simp [State.peek, State.busWrite, busRegion_plain h h', Memory.read_write_same hwf]

end

/-- Settles O40, by the region of the address. -/
theorem busReadContract : Obligations.BusReadContract := by
  intro a s
  refine ⟨fun h => ?_, fun h h' => ?_, fun h => ?_, fun h h' => ?_, fun h => ?_, fun h h' hdma hpad1 hpad2 => ?_,
    fun h => ?_, fun h => ?_⟩
  · exact s.busRead_ram (busRegion_ram h)
  · exact s.busRead_plain (busRegion_plain h h')
  · exact s.busRead_cartridge (busRegion_cartridge h)
  · exact s.busRead_ppuReg (busRegion_ppuReg h (by omega))
  · exact s.busRead_oamDma ((busRegion_oamDma a).2 (BitVec.eq_of_toNat_eq h))
  · exact s.busRead_apuReg (busRegion_apuReg h h' hdma hpad1 hpad2)
  · exact s.busRead_pad ((busRegion_eq_pad_iff a false).2 (BitVec.eq_of_toNat_eq h))
  · exact s.busRead_pad ((busRegion_eq_pad_iff a true).2 (BitVec.eq_of_toNat_eq h))

/-- Settles O41, by the region of the address. -/
theorem busWriteContract : Obligations.BusWriteContract := by
  intro a v s
  refine ⟨fun h => ?_, fun h h' => ?_, fun hwf h => ?_, fun h => ⟨?_, rfl⟩, fun h h' => ?_, fun h => ?_,
    fun h h' hdma hpad1 hpad2 => ?_, ?_⟩
  · exact s.busWrite_ram v (busRegion_ram h)
  · exact s.busWrite_plain v (busRegion_plain h h')
  · exact s.peek_busWrite_same v hwf h
  · exact s.busWrite_cartridge v (busRegion_cartridge h)
  · exact s.busWrite_ppuReg v (busRegion_ppuReg h (by omega))
  · exact s.busWrite_oamDma v ((busRegion_oamDma a).2 (BitVec.eq_of_toNat_eq h))
  · exact s.busWrite_apuReg v (busRegion_apuReg h h' hdma hpad1 hpad2)
  · rintro (h | h)
    · exact s.busWrite_pad v ((busRegion_eq_pad_iff a false).2 (BitVec.eq_of_toNat_eq h))
    · exact s.busWrite_pad v ((busRegion_eq_pad_iff a true).2 (BitVec.eq_of_toNat_eq h))

/-- Each of the four mirrors of an offset leads to it (R58). -/
theorem busRegion_ramMirror {off k : Nat} (hoff : off < 0x0800) (hk : k < 4) :
    busRegion (BitVec.ofNat 16 (off + 0x0800 * k)) = .ram off := by
  rw [busRegion_eq_ram_iff, BitVec.toNat_ofNat]
  omega

/-- Settles O42: the decoder sends all four mirrors to one offset. -/
theorem ramMirrorsNameOneByte : Obligations.RamMirrorsNameOneByte := by
  intro s off j k v hwf hoff hj hk
  have hregion (m : Nat) (hm : m < 4) := busRegion_ramMirror hoff hm
  refine ⟨?_, ?_, ?_⟩
  · rw [s.busWrite_ram v (hregion j hj), State.busRead_ram _ (hregion k hk)]
    exact Memory.read_write_same hwf off v
  · rw [s.busRead_ram (hregion j hj), s.busRead_ram (hregion k hk)]
  · rw [s.busWrite_ram v (hregion j hj), s.busWrite_ram v (hregion k hk)]

end Sys2Proof.Machine
end

section
/-! SUPPORT. The controller ports at the bus (spec/20_memory.md R92, R93). -/

namespace Sys2Proof.Machine

/-! ## The controller port -/

/-- A strobe write: bit 0 is latched, and a transition from 1 to 0 clears both counters (R92). -/
theorem Pads.strobeWrite_eq (v : Byte) (p : Pads) :
    p.strobeWrite v =
      { buttons := p.buttons, strobe := v.getLsbD 0
        rd0 := if p.strobe = true ∧ v.getLsbD 0 = false then 0 else p.rd0
        rd1 := if p.strobe = true ∧ v.getLsbD 0 = false then 0 else p.rd1 } := by
  simp only [Pads.strobeWrite, Bool.and_eq_true, Bool.not_eq_true']
  split_ifs <;> rfl

/-- While a pad's counter is below 8, a read answers the button it names (R93). -/
theorem Pads.answer_of_lt {pad2 : Bool} {p : Pads} (h : p.counter pad2 < 8) :
    p.answer pad2 =
      if p.buttons.getLsbD ((if pad2 then 8 else 0) + p.counter pad2) then 0x01#8 else 0x00#8 := by
  rw [Pads.answer, if_pos h, apply_ite (BitVec.ofNat 8)]

/-- From 8 on it answers PAD_TAIL (R93). -/
theorem Pads.answer_of_ge {pad2 : Bool} {p : Pads} (h : 8 ≤ p.counter pad2) :
    p.answer pad2 = Config.padTail (if pad2 then 1 else 0) (p.counter pad2) := by
  rw [Pads.answer, if_neg h.not_gt]

theorem Pads.advance_counter (pad2 : Bool) (p : Pads) :
    (p.advance pad2).counter pad2 = (p.counter pad2 + 1) % 24 := by
  cases pad2 <;> rfl

/-- Reads advance a counter that starts at 0 one by one, before it wraps (R93). -/
theorem Pads.advance_iterate_counter {pad2 : Bool} {p : Pads} (h : p.counter pad2 = 0) {k : Nat} (hk : k < 24) :
    ((Pads.advance pad2)^[k] p).counter pad2 = k := by
  induction k with
  | zero => exact h
  | succ k ih => rw [Function.iterate_succ_apply', Pads.advance_counter, ih (by omega), Nat.mod_eq_of_lt hk]

theorem Pads.advance_iterate_buttons (pad2 : Bool) (p : Pads) (k : Nat) :
    ((Pads.advance pad2)^[k] p).buttons = p.buttons := by
  induction k with
  | zero => rfl
  | succ k ih => rw [Function.iterate_succ_apply', Pads.advance_buttons, ih]

/-! ## The ports at the bus -/

/-- A write of any other address leaves the pads. -/
theorem State.busWrite_pads_of_ne {a : Addr} (h1 : a ≠ portAddr false) (h2 : a ≠ portAddr true) (v : Byte) (s : State) :
    (s.busWrite a v).pads = s.pads := by
  cases hregion : busRegion a with
  | pad pad2 =>
    have ha := (busRegion_eq_pad_iff a pad2).1 hregion
    cases pad2 <;> contradiction
  | _ => simp [State.busWrite, hregion]

/-- Reads of a port change the pads alone. -/
theorem State.busRead_port_iterate (pad2 : Bool) (s : State) (k : Nat) :
    (fun t : State => (t.busRead (portAddr pad2)).2)^[k] s = { s with pads := (Pads.advance pad2)^[k] s.pads } := by
  induction k with
  | zero => rfl
  | succ k ih =>
    rw [Function.iterate_succ_apply', Function.iterate_succ_apply', ih, State.busRead_pad _ (busRegion_portAddr pad2)]

/-- A strobe pulse clears both counters, whatever they were, and keeps the buttons (R92). -/
theorem State.strobePulse_eq (s : State) :
    (s.busWrite 0x4016#16 0x01#8).busWrite 0x4016#16 0x00#8 =
      { s with pads := { s.pads with strobe := false, rd0 := 0, rd1 := 0 } } := by
  have hwrite (v : Byte) (t : State) : t.busWrite 0x4016#16 v = { t with pads := t.pads.strobeWrite v } :=
    t.busWrite_pad v (busRegion_portAddr false)
  simp [hwrite, Pads.strobeWrite_eq]

/-- The reads of a port whose counter is 0 answer the eight buttons of its pad in order (R93). -/
theorem State.busRead_port_after {pad2 : Bool} {s : State} (h : s.pads.counter pad2 = 0) {k : Nat} (hk : k < 8) :
    ((fun t : State => (t.busRead (portAddr pad2)).2)^[k] s).busRead (portAddr pad2) =
      (if s.pads.buttons.getLsbD ((if pad2 then 8 else 0) + k) then 0x01#8 else 0x00#8,
        (fun t : State => (t.busRead (portAddr pad2)).2)^[k + 1] s) := by
  have hcounter := Pads.advance_iterate_counter h (k := k) (by omega)
  refine Prod.ext ?_ (Function.iterate_succ_apply' (fun t : State => (t.busRead (portAddr pad2)).2) k s).symm
  rw [State.busRead_port_iterate, State.busRead_pad _ (busRegion_portAddr pad2)]
  dsimp only
  rw [Pads.answer_of_lt (by rwa [hcounter]), hcounter, Pads.advance_iterate_buttons]

/-- Settles O43: writes by `Pads.strobeWrite_eq`, reads by what a port answers below and from 8, and the eight reads
because each advances the counter by one. -/
theorem controllerPorts : Obligations.ControllerPorts := by
  refine ⟨?_, fun a v s h1 h2 => State.busWrite_pads_of_ne h1 h2 v s, fun s => ?_, fun s k hk => ?_⟩
  · rintro a v s (rfl | rfl)
    · exact (s.busWrite_pad v (busRegion_portAddr false)).trans (by rw [Pads.strobeWrite_eq])
    · exact (s.busWrite_pad v (busRegion_portAddr true)).trans (by rw [Pads.strobeWrite_eq])
  · have hread1 := s.busRead_pad (busRegion_portAddr false)
    have hread2 := s.busRead_pad (busRegion_portAddr true)
    refine ⟨congrArg Prod.snd hread1, congrArg Prod.snd hread2, fun h => ?_, fun h => ?_, fun h _ => ?_, fun h _ => ?_⟩
    · simpa [Pads.counter, portAddr] using (congrArg Prod.fst hread1).trans (Pads.answer_of_lt h)
    · exact (congrArg Prod.fst hread2).trans (Pads.answer_of_lt h)
    · exact (congrArg Prod.fst hread1).trans (Pads.answer_of_ge h)
    · exact (congrArg Prod.fst hread2).trans (Pads.answer_of_ge h)
  · dsimp only
    rw [s.strobePulse_eq]
    refine ⟨?_, State.busRead_port_after (pad2 := true) rfl hk⟩
    simpa [portAddr] using State.busRead_port_after (pad2 := false)
      (s := { s with pads := { s.pads with strobe := false, rd0 := 0, rd1 := 0 } }) rfl hk

end Sys2Proof.Machine
end

section
/-! SUPPORT. The nametable resolver in the spec's arithmetic (spec/20_memory.md R87 to R90). -/

namespace Sys2Proof.Machine

/-! ## The nametables -/

theorem ntSlot_eq (r : NametableAddr) : ntSlot r = BitVec.ofNat 2 (r.toNat / 1024) := by
  simp [ntSlot, BitVec.extractLsb', Nat.shiftRight_eq_div_pow]

/-- The physical table an address leads to: 1 (true) or 0 (false). -/
def State.ntTable (r : NametableAddr) (s : State) : Bool := physTable s.mirror (BitVec.ofNat 2 (r.toNat / 1024))

theorem State.ntRead_eq (r : NametableAddr) (s : State) :
    s.ntRead r = (if s.ntTable r then s.nt1 else s.nt0).read (r.toNat % 1024) := by
  rw [State.ntRead, ntSlot_eq, ← State.ntTable, ntOffset]
  split <;> rfl

theorem State.ntWrite_eq (r : NametableAddr) (v : Byte) (s : State) :
    s.ntWrite r v =
      if s.ntTable r then { s with nt1 := s.nt1.write (r.toNat % 1024) v }
      else { s with nt0 := s.nt0.write (r.toNat % 1024) v } := by
  rw [State.ntWrite, ntSlot_eq, ← State.ntTable, ntOffset]

/-- A byte written is read, in whatever mode, through every address of the same offset that leads to the same table: a
mode switch moves no byte (R90). -/
theorem State.ntRead_ntWrite_setMirroring {s : State} {r q : NametableAddr} {m : Mirroring} (v : Byte)
    (h0 : s.nt0.wf = true) (h1 : s.nt1.wf = true) (hoff : q.toNat % 1024 = r.toNat % 1024)
    (htable : (s.setMirroring m).ntTable q = s.ntTable r) : ((s.ntWrite r v).setMirroring m).ntRead q = v := by
  have hq : ((s.ntWrite r v).setMirroring m).ntTable q = s.ntTable r := htable
  rw [State.ntRead_eq, hq, State.ntWrite_eq, hoff]
  by_cases ht : s.ntTable r = true
  · simpa [ht] using Memory.read_write_same h1 _ v
  · simpa [ht] using Memory.read_write_same h0 _ v

/-- Settles O44: the slot's table by the modes, the rest by what a read and a write of a table do. -/
theorem nametableMirroring : Obligations.NametableMirroring := by
  refine ⟨by decide, fun v => ?_, fun s r v => ⟨s.ntRead_eq r, s.ntWrite_eq r v⟩, fun _ _ => rfl, ?_⟩
  · apply BitVec.eq_of_toNat_eq
    simp [ntRelative]
  · intro s r q v m h0 h1 hoff htable
    exact State.ntRead_ntWrite_setMirroring v h0 h1 hoff htable

end Sys2Proof.Machine
end

section
/-! SUPPORT. What the forms that do not push leave of memory (spec/20_memory.md R56 to R58, spec/30_encoding.md R102). -/

namespace Sys2Proof.Machine

theorem busRegion_eq_plain_iff (a : Addr) (k : Nat) :
    busRegion a = .plain k ↔ 0x4020 ≤ a.toNat ∧ a.toNat < 0x8000 ∧ a.toNat = k := by
  constructor
  · intro h
    unfold busRegion at h
    dsimp only at h
    split_ifs at h
    cases h
    omega
  · rintro ⟨h, h', rfl⟩
    exact busRegion_plain h h'

/-! ## The bytes a write leaves -/

/-- A write to `a` leaves the byte at `b`: not the byte of RAM it writes, through any mirror, nor the byte of plain storage
it writes; and no byte of the cartridge range when it goes there, where it may switch banks. -/
structure KeepsByte (a b : Addr) : Prop where
  ram : a.toNat < 0x2000 → 0x2000 ≤ b.toNat ∨ b.toNat % 0x0800 ≠ a.toNat % 0x0800
  plain : 0x4020 ≤ a.toNat → a.toNat < 0x8000 → b.toNat ≠ a.toNat
  cartridge : 0x8000 ≤ a.toNat → b.toNat < 0x8000

/-- One key of storage written leaves every address that leads to another key, or to none. -/
theorem State.peek_memWrite_of_ne {b : Addr} {k : Nat} (v : Byte) (s : State)
    (hram : ∀ off, busRegion b = .ram off → k ≠ off) (hplain : ∀ key, busRegion b = .plain key → k ≠ key) :
    State.peek b { s with mem := s.mem.write k v } = s.peek b := by
  cases hb : busRegion b with
  | ram off => simp [State.peek, hb, Memory.read_write_other _ v (hram off hb)]
  | plain key => simp [State.peek, hb, Memory.read_write_other _ v (hplain key hb)]
  | _ => simp [State.peek, hb]

theorem State.peek_busWrite_other {a b : Addr} (h : KeepsByte a b) (v : Byte) (s : State) :
    (s.busWrite a v).peek b = s.peek b := by
  obtain ⟨hram, hplain, hcart⟩ := h
  cases ha : busRegion a with
  | ram off =>
    obtain ⟨ha', rfl⟩ := (busRegion_eq_ram_iff a off).1 ha
    rw [s.busWrite_ram v ha]
    refine State.peek_memWrite_of_ne v s (fun off hb => ?_) fun key hb => ?_
    · have := (busRegion_eq_ram_iff b off).1 hb
      omega
    · have := (busRegion_eq_plain_iff b key).1 hb
      omega
  | plain k =>
    obtain ⟨hlo, hhi, rfl⟩ := (busRegion_eq_plain_iff a k).1 ha
    rw [s.busWrite_plain v ha]
    refine State.peek_memWrite_of_ne v s (fun off hb => ?_) fun key hb => ?_
    · have := ram_of_busRegion hb
      omega
    · have := (busRegion_eq_plain_iff b key).1 hb
      omega
  | cartridge =>
    rw [s.busWrite_cartridge v ha]
    cases hb : busRegion b with
    | cartridge =>
      have := hcart ((busRegion_eq_cartridge_iff a).1 ha)
      have := (busRegion_eq_cartridge_iff b).1 hb
      omega
    | _ => simp [State.peek, hb]
  | _ => simp [State.peek, State.busWrite, ha]

/-- A write that goes neither to internal RAM nor to plain storage leaves storage (R57). -/
theorem State.busWrite_mem_of_not_storage {a : Addr} (h : 0x2000 ≤ a.toNat) (h' : a.toNat < 0x4020 ∨ 0x8000 ≤ a.toNat)
    (v : Byte) (s : State) : (s.busWrite a v).mem = s.mem := by
  cases ha : busRegion a with
  | ram off =>
    have := (busRegion_eq_ram_iff a off).1 ha
    omega
  | plain k =>
    have := (busRegion_eq_plain_iff a k).1 ha
    omega
  | _ => simp [State.busWrite, ha]

theorem Pads.advance_strobe (pad2 : Bool) (p : Pads) : (p.advance pad2).strobe = p.strobe := by
  cases pad2 <;> rfl

@[simp] theorem State.busReadEffect_strobe (a : Addr) (s : State) : (s.busReadEffect a).pads.strobe = s.pads.strobe := by
  unfold State.busReadEffect
  split <;> simp [Pads.advance_strobe]

/-! ## What a run leaves of memory -/

section
variable {W : Addr → Prop} {s t : State}

theorem BusRun.peek_eq {b : Addr} (hW : ∀ a, W a → KeepsByte a b) (h : BusRun W s t) : t.peek b = s.peek b := by
  refine h.eq_of_moves (fun s => s.peek b) fun u w hm => ?_
  cases hm with
  | read a => exact State.peek_busReadEffect a b u
  | write a v _ ha => exact State.peek_busWrite_other (hW a ha) v u
  | regs f => exact State.peek_mapCpu f b u
  | cycles n => exact State.peek_addCycles n b u

theorem BusRun.mem_eq (hW : ∀ a, W a → 0x2000 ≤ a.toNat ∧ (a.toNat < 0x4020 ∨ 0x8000 ≤ a.toNat)) (h : BusRun W s t) :
    t.mem = s.mem := by
  refine h.eq_of_moves State.mem fun u w hm => ?_
  cases hm with
  | read a => exact State.busReadEffect_mem a u
  | write a v _ ha => exact State.busWrite_mem_of_not_storage (hW a ha).1 (hW a ha).2 v u
  | regs f => rfl
  | cycles n => rfl

/-- Only a write takes the strobe (R92). -/
theorem BusRun.strobe_eq (hW : ∀ a, ¬ W a) (h : BusRun W s t) : t.pads.strobe = s.pads.strobe := by
  refine h.eq_of_moves (fun s => s.pads.strobe) fun u w hm => ?_
  cases hm with
  | read a => exact State.busReadEffect_strobe a u
  | write a v _ ha => exact absurd ha (hW a)
  | regs f => rfl
  | cycles n => rfl

end

/-! ## The forms that do not push -/

/-- Jumps, returns and pulls write nothing. -/
theorem busRun_exec_control_of_no_push {W : Addr → Prop} {i : Instr} (s : State) (hpush : pushCount i = 0)
    (hi : i.mnemonic ∈ [.JMP, .JSR, .RTS, .RTI, .BRK, .PHA, .PHP, .PLA, .PLP]) :
    ∃ t, exec i s = .next t ∧ BusRun W s t := by
  cases i <;> simp [Instr.mnemonic, Instr.asm] at hi
  case jmpAbs w => exact ⟨_, exec_jmpAbs w s, (BusRun.setPc _ .refl).addCycles _⟩
  case jmpInd w => exact ⟨_, exec_jmpInd w s, (((BusRun.read _ .refl).read _).setPc _).addCycles _⟩
  case rts => exact ⟨_, exec_rts s, ((BusRun.pull16 .refl).setPc _).addCycles _⟩
  case rti => exact ⟨_, exec_rti s, (BusRun.returnFromTrap .refl).addCycles _⟩
  case pla => exact ⟨_, exec_pla s, ((BusRun.pull8 .refl).regs (f := Cpu.lda _) rfl).addCycles _⟩
  case plp => exact ⟨_, exec_plp s, ((BusRun.pull8 .refl).mapFlags (g := Flags.setStatus _) rfl).addCycles _⟩
  all_goals cases hpush

/-- A form that does not push is a run that writes nowhere but, if it stores, at its effective address: `busRun_exec`
without the stack page. -/
theorem busRun_exec_of_no_push {W : Addr → Prop} {i : Instr} {s t : State} (hpush : pushCount i = 0)
    (hea : storesAtEa i = true → W (ea i s).addr) (h : exec i s = .next t) : BusRun W s t := by
  suffices hrun : ∃ u, exec i s = .next u ∧ BusRun W s u by
    obtain ⟨u, hu, hrun⟩ := hrun
    rwa [← Host.Outcome.next.inj (hu.symm.trans h)]
  obtain ⟨f, hf⟩ | ⟨f, hf⟩ | ⟨f, hf⟩ | ⟨f, hf⟩ | hrel | hcontrol := instr_shape i
  · exact ⟨_, exec_read hf s, ((busRun_dataRead i s).regs (readEffect_break hf _ _)).addCycles _⟩
  · exact ⟨_, exec_store hf s, ((busRun_resolveMode _ _ s).write _ (hea (storesAtEa_of_store hf))).addCycles _⟩
  · by_cases hm : i.mode = .ACC
    · exact ⟨_, exec_accumulator hf hm s, (BusRun.regs (modifyEffect_break hf _ _) .refl).addCycles _⟩
    · have hwritten (v : Byte) := (busRun_dataRead i s).write v (hea (storesAtEa_of_modify hf hm))
      refine ⟨_, exec_modify hf hm s, ((hwritten _).mapFlags ?_).addCycles _⟩
      rw [State.busWrite_cpu]
      exact modifyEffect_break hf _ _
  · exact ⟨_, exec_register hf s, (BusRun.regs (registerEffect_break hf _) .refl).addCycles _⟩
  · refine ⟨_, exec_branch hrel s, BusRun.addCycles _ ?_⟩
    split
    · exact BusRun.setPc _ .refl
    · exact .refl
  · exact busRun_exec_control_of_no_push s hpush hcontrol

theorem pushCount_eq_zero_of_storesAtEa {i : Instr} (h : storesAtEa i = true) : pushCount i = 0 := by
  have hw : writesMemory i.mnemonic = true := (Bool.and_eq_true_iff.1 h).1
  unfold pushCount
  cases hi : i.mnemonic <;> simp only [hi, writesMemory, Bool.false_eq_true] at hw <;> rfl

/-- Settles O37: such a form is a run without a write, and reads leave every byte and the strobe. -/
theorem nonStoringFormsLeaveMemory : Obligations.NonStoringFormsLeaveMemory := by
  intro i s t h hstore hpush
  have hrun : BusRun (fun _ => False) s t := busRun_exec_of_no_push hpush (by simp [hstore]) h
  exact ⟨fun b => hrun.peek_eq fun _ => False.elim, hrun.mem_eq fun _ => False.elim, hrun.strobe_eq fun _ => id⟩

/-- Settles O38: such a form is a run that writes at its effective address alone. -/
theorem storingFormsChangeOneByte : Obligations.StoringFormsChangeOneByte := by
  intro i s t b h hstore
  have hrun : BusRun (· = (ea i s).addr) s t :=
    busRun_exec_of_no_push (pushCount_eq_zero_of_storesAtEa hstore) (fun _ => rfl) h
  have hpeek (hkept : KeepsByte (ea i s).addr b) : t.peek b = s.peek b := by
    refine hrun.peek_eq ?_
    rintro a rfl
    exact hkept
  refine ⟨fun ha hb => hpeek ?_, fun hlo hhi hb => hpeek ?_, fun ha hb => hpeek ?_, fun hlo hhi => hpeek ?_,
    fun hlo hhi => ?_⟩
  · exact ⟨fun _ => hb, fun _ _ => by omega, fun _ => by omega⟩
  · exact ⟨fun _ => by omega, fun _ _ => hb, fun _ => by omega⟩
  · exact ⟨fun _ => by omega, fun _ _ => by omega, fun _ => hb⟩
  · exact ⟨fun _ => by omega, fun _ _ => by omega, fun _ => by omega⟩
  · refine hrun.mem_eq ?_
    rintro a rfl
    exact ⟨hlo, hhi⟩

end Sys2Proof.Machine
end

section
/-! SUPPORT. The decoder and the encoder against the opcode matrix (spec/30_encoding.md R101, R119, R120, R122). -/

namespace Sys2Proof.Machine

/-! ## The bytes of an instruction -/

theorem operandBytes_length (mode : Mode) (operand : Nat) : (operandBytes mode operand).length = mode.operandBytes := by
  cases mode <;> rfl

theorem encode_length (i : Instr) : (encode i).length = i.mode.length := by
  rw [encode, List.length_cons, operandBytes_length, Mode.length, Nat.add_comm]

theorem encode_alone {i : Instr} (hmode : i.mode.operandBytes = 0) : encode i = [i.opcode] := by
  simp [encode, operandBytes, hmode]

theorem encode_oneByte {i : Instr} {b : Byte} (hmode : i.mode.operandBytes = 1) (hoperand : i.operand = b.toNat) :
    encode i = [i.opcode, b] := by
  simp [encode, operandBytes, hmode, hoperand]

/-- The low operand byte comes first (R101). -/
theorem encode_twoBytes {i : Instr} {w : Addr} (hmode : i.mode.operandBytes = 2) (hoperand : i.operand = w.toNat) :
    encode i = [i.opcode, lowByte w, highByte w] := by
  have hlow : BitVec.ofNat 8 w.toNat = lowByte w := BitVec.eq_of_toNat_eq (by rw [lowByte_toNat, BitVec.toNat_ofNat])
  have hhigh : BitVec.ofNat 8 (w.toNat / 256) = highByte w := by
    apply BitVec.eq_of_toNat_eq
    rw [highByte_toNat, BitVec.toNat_ofNat]
    omega
  simp [encode, operandBytes, hmode, hoperand, -BitVec.ofNat_toNat, hlow, hhigh]

/-! ## The cells of the matrix -/

/-- Whatever its operand, an instruction of a cell has the cell's opcode byte, a mode of the cell's format and the operand
it is made of. -/
inductive CellWritten : OpRow → Prop where
  | alone {op : Byte} {i : Instr} (hop : i.opcode = op) (hmode : i.mode.operandBytes = 0) : CellWritten ⟨op, .alone i⟩
  | oneByte {op : Byte} {mk : Byte → Instr} (hop : ∀ b, (mk b).opcode = op)
      (hmode : ∀ b, (mk b).mode.operandBytes = 1) (hoperand : ∀ b, (mk b).operand = b.toNat) :
      CellWritten ⟨op, .oneByte mk⟩
  | twoBytes {op : Byte} {mk : Addr → Instr} (hop : ∀ w, (mk w).opcode = op)
      (hmode : ∀ w, (mk w).mode.operandBytes = 2) (hoperand : ∀ w, (mk w).operand = w.toNat) :
      CellWritten ⟨op, .twoBytes mk⟩

/-- The instructions a format makes of its operand bytes, each in a mode of that format with that operand. -/
inductive FormMakes : Form → Instr → Prop where
  | alone (i : Instr) (hmode : i.mode.operandBytes = 0) (hoperand : i.operand = 0) : FormMakes (.alone i) i
  | oneByte (mk : Byte → Instr) (b : Byte) (hmode : (mk b).mode.operandBytes = 1) (hoperand : (mk b).operand = b.toNat) :
      FormMakes (.oneByte mk) (mk b)
  | twoBytes (mk : Addr → Instr) (w : Addr) (hmode : (mk w).mode.operandBytes = 2)
      (hoperand : (mk w).operand = w.toNat) : FormMakes (.twoBytes mk) (mk w)

theorem opTable_written : ∀ r ∈ opTable, CellWritten r := by
  refine List.forall_iff_forall_mem.1 ?_
  simp only [opTable, List.forall_append]
  repeat' apply And.intro
  all_goals constructor <;> intros <;> rfl

/-- The sixteen rows of the matrix, by the high digit of the opcode byte. -/
def matrixRows : List (List OpRow) :=
  [opRows0, opRows1, opRows2, opRows3, opRows4, opRows5, opRows6, opRows7, opRows8, opRows9, opRowsA, opRowsB, opRowsC,
    opRowsD, opRowsE, opRowsF]

theorem opTable_eq_flatten : opTable = matrixRows.flatten := by simp [opTable, matrixRows]

/-- The opcode bytes of the matrix and the 105 bytes of R120 are the 256 bytes, each once. -/
theorem opcodes_perm_range :
    ((opTable.map (·.op) ++ undefinedOpcodes).map BitVec.toNat).Perm (List.range 256) := by
  have hsorted : ((opTable.map (·.op) ++ undefinedOpcodes).map BitVec.toNat).insertionSort (· ≤ ·) = List.range 256 := by
    decide +kernel
  rw [← hsorted]
  exact (List.perm_insertionSort _ _).symm

theorem opcodes_nodup : (opTable.map (·.op) ++ undefinedOpcodes).Nodup :=
  (opcodes_perm_range.nodup_iff.2 List.nodup_range).of_map _

theorem mem_opcodes (op : Byte) : op ∈ opTable.map (·.op) ++ undefinedOpcodes := by
  have h : op.toNat ∈ (opTable.map (·.op) ++ undefinedOpcodes).map BitVec.toNat :=
    opcodes_perm_range.mem_iff.2 (List.mem_range.2 op.isLt)
  obtain ⟨b, hb, heq⟩ := List.mem_map.1 h
  rwa [← BitVec.eq_of_toNat_eq heq]

/-- The bytes without a cell are the 105 of R120. -/
theorem opForm_eq_none_iff (op : Byte) : opForm op = none ↔ op ∈ undefinedOpcodes := by
  have hdisjoint := List.disjoint_of_nodup_append opcodes_nodup
  have hcell : opForm op = none ↔ op ∉ opTable.map (·.op) := by simp [opForm]
  rw [hcell]
  exact ⟨fun h => (List.mem_append.1 (mem_opcodes op)).resolve_left h, fun h h' => hdisjoint h' h⟩

/-- A byte's cell is a cell of the table. -/
theorem mem_of_opForm {op : Byte} {form : Form} (h : opForm op = some form) : ⟨op, form⟩ ∈ opTable := by
  obtain ⟨r, hr, rfl⟩ := Option.map_eq_some_iff.1 h
  have hop : r.op = op := by simpa using List.find?_some hr
  rw [← hop]
  exact List.mem_of_find?_eq_some hr

/-- A cell found in a row is its byte's cell: no other has that byte. -/
theorem opForm_of_row {op : Byte} {r : OpRow}
    (h : (matrixRows.getD (op.toNat / 16) []).find? (fun r => r.op == op) = some r) : opForm op = some r.form := by
  have hop : r.op = op := by simpa using List.find?_some h
  have hrow : r ∈ opTable := by
    have hr := List.mem_of_find?_eq_some h
    rw [opTable_eq_flatten, List.mem_flatten]
    refine ⟨_, ?_, hr⟩
    rw [List.getD_eq_getElem?_getD] at hr ⊢
    cases hk : matrixRows[op.toNat / 16]? with
    | none => simp [hk] at hr
    | some row => exact List.mem_of_getElem? hk
  cases hform : opForm op with
  | none =>
    have habsent : ∀ r ∈ opTable, r.op ≠ op := by simpa [opForm] using hform
    exact absurd hop (habsent r hrow)
  | some form =>
    have heq : (⟨op, form⟩ : OpRow) = r :=
      List.inj_on_of_nodup_map (List.Nodup.of_append_left opcodes_nodup) (mem_of_opForm hform) hrow hop.symm
    rw [← heq]

/-- Every instruction is one that the cell of its opcode byte makes (R119). -/
theorem opForm_opcode (i : Instr) : ∃ form, opForm i.opcode = some form ∧ FormMakes form i := by
  cases i <;> simp only [Instr.opcode] <;> exact ⟨_, opForm_of_row rfl, by constructor <;> rfl⟩

/-! ## Decoding and encoding -/

theorem decode_of_undefined {op : Byte} (h : opForm op = none) (rest : List Byte) :
    decode (op :: rest) = .error (.undefinedOpcode op) := by
  simp only [decode, h]

theorem decode_encode (i : Instr) (rest : List Byte) : decode (encode i ++ rest) = .ok (i, rest) := by
  obtain ⟨form, hform, hmakes⟩ := opForm_opcode i
  cases hmakes with
  | alone i hmode _ => simp only [encode_alone hmode, List.cons_append, List.nil_append, decode, hform]
  | oneByte mk b hmode hoperand =>
    simp only [encode_oneByte hmode hoperand, List.cons_append, List.nil_append, decode, hform]
  | twoBytes mk w hmode hoperand =>
    simp only [encode_twoBytes hmode hoperand, List.cons_append, List.nil_append, decode, hform, joinBytes_high_low]

theorem lowByte_joinBytes (hi lo : Byte) : lowByte (joinBytes hi lo) = lo := by
  apply BitVec.eq_of_toNat_eq
  rw [lowByte_toNat, joinBytes_toNat]
  omega

theorem highByte_joinBytes (hi lo : Byte) : highByte (joinBytes hi lo) = hi := by
  apply BitVec.eq_of_toNat_eq
  rw [highByte_toNat, joinBytes_toNat]
  omega

theorem encode_of_decode {bs rest : List Byte} {i : Instr} (h : decode bs = .ok (i, rest)) : bs = encode i ++ rest := by
  unfold decode at h
  split at h
  · cases h
  next op tail =>
    split at h
    · cases h
    next j hform =>
      cases h
      cases opTable_written _ (mem_of_opForm hform) with
      | alone hop hmode => rw [encode_alone hmode, hop]; rfl
    next mk hform =>
      split at h
      · cases h
      next b tail =>
        cases h
        cases opTable_written _ (mem_of_opForm hform) with
        | oneByte hop hmode hoperand => rw [encode_oneByte (hmode b) (hoperand b), hop]; rfl
    next mk hform =>
      split at h
      next lo hi tail =>
        cases h
        cases opTable_written _ (mem_of_opForm hform) with
        | twoBytes hop hmode hoperand =>
          rw [encode_twoBytes (hmode _) (hoperand _), hop, lowByte_joinBytes, highByte_joinBytes]; rfl
      · cases h

/-- A byte with a cell decodes, whatever two bytes follow it (R127). -/
theorem decode_of_cell {op : Byte} {form : Form} (h : opForm op = some form) (b1 b2 : Byte) (rest : List Byte) :
    ∃ i left, decode (op :: b1 :: b2 :: rest) = .ok (i, left) := by
  cases form with
  | alone i => exact ⟨i, b1 :: b2 :: rest, by simp only [decode, h]⟩
  | oneByte mk => exact ⟨mk b1, b2 :: rest, by simp only [decode, h]⟩
  | twoBytes mk => exact ⟨mk (joinBytes b2 b1), rest, by simp only [decode, h]⟩

/-- Settles O2: every instruction is made by the cell of its opcode byte, whose instructions are written as it reads
them. -/
theorem decodeOfEncode : Obligations.DecodeOfEncode :=
  fun i rest => ⟨decode_encode i rest, encode_length i⟩

/-- Settles O3, by the format of the cell that decoded. -/
theorem encodeOfDecode : Obligations.EncodeOfDecode :=
  fun _ _ _ => encode_of_decode

/-- Settles O4: the bytes of the matrix and the 105 are the 256 bytes, each once. -/
theorem everyOpcodeByteIsDefinedOrListed : Obligations.EveryOpcodeByteIsDefinedOrListed := by
  refine ⟨rfl, List.Nodup.of_append_right opcodes_nodup, fun op => ?_⟩
  cases hform : opForm op with
  | none => exact .inl ⟨(opForm_eq_none_iff op).1 hform, decode_of_undefined hform⟩
  | some form =>
    refine .inr ⟨fun hmem => by simp [(opForm_eq_none_iff op).2 hmem] at hform, fun b1 b2 rest => ?_⟩
    obtain ⟨i, left, hdecode⟩ := decode_of_cell hform b1 b2 rest
    have hop : op = i.opcode := List.head_eq_of_cons_eq (encode_of_decode hdecode)
    exact ⟨i, left, hdecode, congrArg some hop.symm⟩

/-- Settles O1: the seven encodings, written out. -/
theorem specWordsDecode : Obligations.SpecWordsDecode :=
  ⟨decode_encode (.ldaImm 0x80#8) [], decode_encode (.staAbsx 0x1234#16) [], decode_encode (.adcIzy 0x20#8) [],
    decode_encode .rorAcc [], decode_encode (.jmpInd 0x02FF#16) [], decode_encode (.bne 0xFB#8) [],
    decode_encode .brk [0xEA#8]⟩

end Sys2Proof.Machine
end

section
/-! SUPPORT. The fetch and the processor's step (spec/30_encoding.md R100, R120, R122; spec/60_exceptions.md R254). -/

namespace Sys2Proof.Machine

/-- With no mark pending but an IRQ held off by I, nothing is taken (R254). -/
theorem State.pollInterrupts_none {s : State} (hreset : s.pend.reset = false) (hnmi : s.pend.nmi = false)
    (hirq : s.pend.irq = false ∨ s.cpu.f.i = true) : s.pollInterrupts = (none, s) := by
  have hheld : (s.pend.irq && !s.cpu.f.i) = false := by
    obtain h | h := hirq <;> simp [h]
  simp [State.pollInterrupts, hreset, hnmi, hheld]

/-- The fetch of a byte without a cell reads that byte alone (R120). -/
theorem State.fetch_of_undefined {s : State} (h : opForm (s.busValue s.cpu.pc) = none) :
    s.fetch = ⟨s.busValue s.cpu.pc, none, s.fetchByte.2⟩ := by
  simp only [State.fetch, State.fetchByte, State.busRead_fst, h]

/-- Settles O5: the 105 bytes are those without a cell, so the fetch gives no instruction. -/
theorem undefinedOpcodeIsRefused : Obligations.UndefinedOpcodeIsRefused := by
  intro s hreset hnmi hirq hop
  have hfetch := State.fetch_of_undefined ((opForm_eq_none_iff _).2 hop)
  simp only [cpuStep, State.pollInterrupts_none hreset hnmi hirq, hfetch, State.busRead_fst]

end Sys2Proof.Machine
end

section
/-! SUPPORT. The addressing modes in the spec's arithmetic (spec/30_encoding.md R106 to R115). -/

namespace Sys2Proof.Machine

/-- An operand fits the operand bytes of its mode (R101). -/
theorem operand_lt (i : Instr) : i.operand < 256 ^ i.mode.operandBytes := by
  obtain ⟨form, -, hmakes⟩ := opForm_opcode i
  cases hmakes with
  | alone i hmode hoperand =>
    rw [hmode, hoperand]
    decide
  | oneByte mk b hmode hoperand =>
    rw [hmode, hoperand]
    exact b.isLt
  | twoBytes mk w hmode hoperand =>
    rw [hmode, hoperand]
    exact w.isLt

theorem eaZpx_addr (z : Byte) (s : State) : (eaZpx z s).addr.toNat = (z.toNat + s.cpu.x.toNat) % 256 := by
  simp [eaZpx, BitVec.toNat_add]

theorem eaZpy_addr (z : Byte) (s : State) : (eaZpy z s).addr.toNat = (z.toNat + s.cpu.y.toNat) % 256 := by
  simp [eaZpy, BitVec.toNat_add]

/-- A 16-bit address indexed by a byte, modulo 65536. -/
theorem toNat_add_index (w : Addr) (index : Byte) :
    (w + index.setWidth 16).toNat = (w.toNat + index.toNat) % 65536 := by
  rw [BitVec.toNat_add, BitVec.toNat_setWidth]
  omega

theorem eaIzx_addr (z : Byte) (s : State) :
    (eaIzx z s).addr.toNat =
      (s.mem.read (((z.toNat + s.cpu.x.toNat) % 256 + 1) % 256)).toNat * 256 +
        (s.mem.read ((z.toNat + s.cpu.x.toNat) % 256)).toNat := by
  simp only [eaIzx, State.busRead16ZeroPage_fst, joinBytes_toNat, BitVec.toNat_add, BitVec.toNat_ofNat]

/-- The pointer read of IZY: the high byte from the next zero-page address, modulo 256 (R115). -/
theorem busRead16ZeroPage_toNat (z : Byte) (s : State) :
    (s.busRead16ZeroPage z).1.toNat =
      (s.mem.read ((z.toNat + 1) % 256)).toNat * 256 + (s.mem.read z.toNat).toNat := by
  simp only [State.busRead16ZeroPage_fst, joinBytes_toNat, BitVec.toNat_add, BitVec.toNat_ofNat]

theorem eaIzy_crossed (z : Byte) (s : State) :
    (eaIzy z s).crossed = decide ((s.mem.read z.toNat).toNat + s.cpu.y.toNat > 0xFF) := by
  have hlow : (s.busRead16ZeroPage z).1.toNat % 256 = (s.mem.read z.toNat).toNat := by
    rw [busRead16ZeroPage_toNat]
    omega
  rw [eaIzy, pageCross, hlow]

/-- Settles O16, mode by mode: the operand is the byte or word the mode's resolver is given. -/
theorem effectiveAddresses : Obligations.EffectiveAddresses := by
  intro i s
  have hlt := operand_lt i
  have hbyte (h : i.mode.operandBytes = 1) : (BitVec.ofNat 8 i.operand).toNat = i.operand := by
    rw [h] at hlt
    exact Nat.mod_eq_of_lt hlt
  have hword (h : i.mode.operandBytes = 2) : (BitVec.ofNat 16 i.operand).toNat = i.operand := by
    rw [h] at hlt
    exact Nat.mod_eq_of_lt hlt
  refine ⟨fun h => ?_, fun h => ?_, fun h => ?_, fun h => ?_, fun h => ?_, fun h => ?_, fun h => ?_, fun h => ?_,
    fun h => ea_st h s⟩
  all_goals rw [ea, h]; rw [h] at hbyte hword
  · exact ⟨(zeroPage_toNat _).trans (hbyte rfl), rfl⟩
  · exact ⟨(eaZpx_addr _ s).trans (by rw [hbyte rfl]), rfl⟩
  · exact ⟨(eaZpy_addr _ s).trans (by rw [hbyte rfl]), rfl⟩
  · exact ⟨hword rfl, rfl⟩
  · exact ⟨(toNat_add_index _ _).trans (by rw [hword rfl]), by simp only [resolveMode, eaAbsx, pageCross, hword rfl]⟩
  · exact ⟨(toNat_add_index _ _).trans (by rw [hword rfl]), by simp only [resolveMode, eaAbsy, pageCross, hword rfl]⟩
  · exact ⟨(eaIzx_addr _ s).trans (by rw [hbyte rfl]), rfl⟩
  · refine ⟨(toNat_add_index _ _).trans ?_, (eaIzy_crossed _ s).trans (by rw [hbyte rfl])⟩
    rw [busRead16ZeroPage_toNat, hbyte rfl]

end Sys2Proof.Machine
end

section
/-! SUPPORT. What a step of an instruction costs (spec/30_encoding.md R123, R124). -/

namespace Sys2Proof.Machine

/-! ## The scheduler's part of an operand -/

@[simp] theorem eaInd_sched (w : Addr) (s : State) : (eaInd w s).st.sched = s.sched := by
  simp [eaInd, State.busRead16Wrapped]

@[simp] theorem resolveMode_sched (m : Mode) (n : Nat) (s : State) : (resolveMode m n s).st.sched = s.sched := by
  by_cases h : m = .IND
  · subst h
    exact eaInd_sched _ s
  · rw [resolveMode_st h]

theorem dataRead_sched_eq (i : Instr) (s : State) : (dataRead i s).2.sched = s.sched := by
  unfold dataRead
  split <;> simp [ea]

/-! ## Which forms do not store -/

theorem storesAtEa_of_read {i : Instr} {f : Byte → Cpu → Cpu} (h : readEffect i.mnemonic = some f) :
    storesAtEa i = false := by
  unfold storesAtEa
  cases hi : i.mnemonic <;> simp only [hi, readEffect, reduceCtorEq] at h <;> rfl

theorem storesAtEa_of_register {i : Instr} {f : Cpu → Cpu} (h : registerEffect i.mnemonic = some f) :
    storesAtEa i = false := by
  unfold storesAtEa
  cases hi : i.mnemonic <;> simp only [hi, registerEffect, reduceCtorEq] at h <;> rfl

theorem storesAtEa_of_branch {i : Instr} (h : i.mode = .REL) : storesAtEa i = false := by
  cases i <;> simp only [Instr.mode, Instr.asm, reduceCtorEq] at h <;> rfl

/-! ## The cost -/

/-- What an instruction adds to the accumulator (R275). -/
def stepCycles (i : Instr) (s : State) : Nat :=
  cycleCost i s + (if storesAtEa i = true then oamStall (ea i s).addr else 0)

/-- Jumps, calls, returns and the stack forms have a fixed cost. -/
theorem exec_control_acc {i : Instr} (s : State)
    (hi : i.mnemonic ∈ [.JMP, .JSR, .RTS, .RTI, .BRK, .PHA, .PHP, .PLA, .PLP]) :
    ∃ t, exec i s = .next t ∧ t.sched.acc = s.sched.acc + stepCycles i s := by
  cases i <;> simp [Instr.mnemonic, Instr.asm] at hi
  case jmpAbs w => exact ⟨_, exec_jmpAbs w s, rfl⟩
  case jmpInd w => exact ⟨_, exec_jmpInd w s, congrArg (·.acc + 5) (eaInd_sched w s)⟩
  case jsr w => exact ⟨_, exec_jsr w s, by rw [State.push16_eq]; simp; rfl⟩
  case rts => exact ⟨_, exec_rts s, by rw [State.pull16_eq]; rfl⟩
  case rti => exact ⟨_, exec_rti s, by rw [State.returnFromTrap_eq]; rfl⟩
  case brk => exact ⟨_, exec_brk s, by rw [State.enterTrap_eq _ _ _ (by decide) (by decide)]; simp; rfl⟩
  case pha => exact ⟨_, exec_pha s, by rw [State.push8_eq]; rfl⟩
  case php => exact ⟨_, exec_php s, by rw [State.push8_eq]; rfl⟩
  case pla => exact ⟨_, exec_pla s, by rw [State.pull8_snd]; rfl⟩
  case plp => exact ⟨_, exec_plp s, by rw [State.pull8_snd]; rfl⟩

theorem exec_acc (i : Instr) (s : State) : ∃ t, exec i s = .next t ∧ t.sched.acc = s.sched.acc + stepCycles i s := by
  obtain ⟨f, hf⟩ | ⟨f, hf⟩ | ⟨f, hf⟩ | ⟨f, hf⟩ | hrel | hcontrol := instr_shape i
  · exact ⟨_, exec_read hf s, by simp [stepCycles, storesAtEa_of_read hf, dataRead_sched_eq]⟩
  · refine ⟨_, exec_store hf s, ?_⟩
    simp [stepCycles, storesAtEa_of_store hf, State.busWrite_sched, ea]
    omega
  · by_cases hm : i.mode = .ACC
    · exact ⟨_, exec_accumulator hf hm s, by simp [stepCycles, storesAtEa, hm]⟩
    · refine ⟨_, exec_modify hf hm s, ?_⟩
      simp [stepCycles, storesAtEa_of_modify hf hm, State.busWrite_sched, dataRead_sched_eq]
      omega
  · exact ⟨_, exec_register hf s, by simp [stepCycles, storesAtEa_of_register hf]⟩
  · refine ⟨_, exec_branch hrel s, ?_⟩
    split <;> simp [stepCycles, storesAtEa_of_branch hrel]
  · exact exec_control_acc s hcontrol

/-- The cells marked `+` (R123, R124 a). -/
theorem pagePenalty_iff (m : Mnemonic) (mode : Mode) :
    pagePenalty m mode = true ↔
      m ∈ [.LDA, .LDX, .LDY, .ADC, .SBC, .AND, .ORA, .EOR, .CMP] ∧ mode ∈ [.ABSX, .ABSY, .IZY] := by
  cases m <;> simp [pagePenalty, or_assoc]

theorem highByte_eq_iff (a b : Addr) : highByte a = highByte b ↔ a.toNat / 256 = b.toNat / 256 := by
  rw [← highByte_toNat, ← highByte_toNat, BitVec.toNat_inj]

theorem enterInterrupt_acc (k : Interrupt) (s : State) : (s.enterInterrupt k).sched.acc = s.sched.acc + 7 := by
  cases k with
  | reset => rw [State.enterInterrupt_reset]
  | nmi => simp [State.enterInterrupt, State.enterTrap_eq]
  | irq => simp [State.enterInterrupt, State.enterTrap_eq]

/-- Settles O35: what each shape of instruction adds to the accumulator, with `cycleCost` in the terms of R124. -/
theorem cyclePenalties : Obligations.CyclePenalties := by
  refine ⟨fun i s => ?_, enterInterrupt_acc⟩
  obtain ⟨t, hexec, hacc⟩ := exec_acc i s
  refine ⟨t, hexec, hacc.trans ?_⟩
  simp only [stepCycles, cycleCost, oamStall, Bool.and_eq_true, pagePenalty_iff, highByte_eq_iff, and_assoc, ite_and]
  omega

end Sys2Proof.Machine
end

section
/-! SUPPORT. The machine's step at an instruction's bytes, and what the end of a step leaves alone (spec/30_encoding.md
R100, R122; spec/60_exceptions.md R275, R278). -/

namespace Sys2Proof.Machine

/-! ## The fetch of an encoding -/

@[simp] theorem State.peek_setPc (pc b : Addr) (s : State) : (s.setPc pc).peek b = s.peek b := rfl

theorem State.fetchByte_of_peek {s : State} {v : Byte} (h : s.peek s.cpu.pc = some v) :
    s.fetchByte = (v, s.setPc (s.cpu.pc + 1#16)) := by
  simp [State.fetchByte, State.busValue_of_peek h, State.busReadEffect_of_peek h]

/-- Bytes of storage or of the cartridge range are fetched in order and nothing but PC changes (R100). -/
theorem State.fetchBytes_of_peek {bs : List Byte} {s : State}
    (h : ∀ k, k < bs.length → s.peek (s.cpu.pc + BitVec.ofNat 16 k) = bs[k]?) :
    State.fetchBytes bs.length s = (bs, s.setPc (s.cpu.pc + BitVec.ofNat 16 bs.length)) := by
  induction bs generalizing s with
  | nil => simp [State.fetchBytes, State.setPc]
  | cons b bs ih =>
    have hshift (k : Nat) : s.cpu.pc + 1#16 + BitVec.ofNat 16 k = s.cpu.pc + BitVec.ofNat 16 (k + 1) := by
      rw [BitVec.ofNat_add]
      bv_omega
    have hfirst : s.fetchByte = (b, s.setPc (s.cpu.pc + 1#16)) :=
      State.fetchByte_of_peek (by simpa using h 0 (Nat.zero_lt_succ _))
    have hrest := ih (s := s.setPc (s.cpu.pc + 1#16)) fun k hk => by
      simpa [hshift] using h (k + 1) (Nat.succ_lt_succ hk)
    simp only [List.length_cons, State.fetchBytes, hfirst, hrest, State.setPc_cpu, hshift]
    rfl

/-- A cell's format has the operand bytes of the instructions it makes (R101). -/
theorem FormMakes.operandBytes_length {form : Form} {i : Instr} (h : FormMakes form i) :
    form.operandBytes = (operandBytes i.mode i.operand).length := by
  rw [Machine.operandBytes_length]
  cases h with
  | alone i hmode _ => exact hmode.symm
  | oneByte mk b hmode _ => exact hmode.symm
  | twoBytes mk w hmode _ => exact hmode.symm

/-- A fetch that meets an instruction's bytes answers it: its opcode byte fixes how many are read (R122). -/
theorem State.fetch_of_fetchBytes {i : Instr} {s u : State}
    (h : State.fetchBytes (encode i).length s = (encode i, u)) : s.fetch = ⟨i.opcode, some i, u⟩ := by
  obtain ⟨form, hform, hmakes⟩ := opForm_opcode i
  simp only [encode, List.length_cons, State.fetchBytes, Prod.mk.injEq, List.cons.injEq] at h
  obtain ⟨⟨hop, hoperands⟩, hst⟩ := h
  have hdecode : decode (i.opcode :: operandBytes i.mode i.operand) = .ok (i, []) := by
    simpa [encode] using decode_encode i []
  simp only [State.fetch, hop, hform, hmakes.operandBytes_length, hoperands, hst, hdecode]

/-! ## The processor's step and the machine's -/

/-- With nothing to take, the processor executes what it fetches (R100). -/
theorem cpuStep_of_fetch {s w : State} {op : Byte} {i : Instr} (hpoll : s.pollInterrupts = (none, s))
    (hfetch : s.fetch = ⟨op, some i, w⟩) : cpuStep s = exec i w := by
  simp only [cpuStep, hpoll, hfetch]

/-- The machine inside an iteration, where `stop` is not read (R276, log 11). -/
def State.insideIteration (s : State) : State := { s with sched := { s.sched with atTop := false } }

/-- Below 114 cycles and not at a stop, the machine makes a processor step and what follows it (R275, R276). -/
theorem step_of_cpuStep {s t : State} (hstop : s.atBoundary.sched.atTop = false ∨ s.atBoundary.sched.stop = false)
    (hacc : s.atBoundary.sched.acc < 114)
    (h : cpuStep s.atBoundary.insideIteration = .next t) : step s = .next t.endOfStep := by
  have htop : (s.atBoundary.sched.atTop && s.atBoundary.sched.stop) = false := by
    obtain h | h := hstop <;> simp [h]
  rw [State.insideIteration] at h
  simp only [step, schedulerStep, htop, Bool.false_eq_true, if_false, if_neg (Nat.not_le.2 hacc), h]

/-- Such a step runs the instruction fetched. -/
theorem step_of_fetch {s w : State} {op : Byte} {i : Instr}
    (hstop : s.atBoundary.sched.atTop = false ∨ s.atBoundary.sched.stop = false) (hacc : s.atBoundary.sched.acc < 114)
    (hreset : s.atBoundary.pend.reset = false) (hnmi : s.atBoundary.pend.nmi = false)
    (hirq : s.atBoundary.pend.irq = false ∨ s.atBoundary.cpu.f.i = true)
    (hfetch : s.atBoundary.insideIteration.fetch = ⟨op, some i, w⟩) :
    ∃ t, exec i w = .next t ∧ step s = .next t.endOfStep := by
  obtain ⟨t, ht⟩ := exec_completes i w
  have hpoll := State.pollInterrupts_none (s := s.atBoundary.insideIteration) hreset hnmi hirq
  exact ⟨t, ht, step_of_cpuStep hstop hacc ((cpuStep_of_fetch hpoll hfetch).trans ht)⟩

/-! ## The end of a step -/

/-- From `s` to `t` nothing changes that the end of a step cannot reach: the processor, storage, the mirroring mode, the
buttons, the strobe, the stop flag, and the mapper registers but those hooks write. -/
structure StepEndFrame (s t : State) : Prop where
  cpu : t.cpu = s.cpu
  mem : t.mem = s.mem
  mirror : t.mirror = s.mirror
  buttons : t.pads.buttons = s.pads.buttons
  strobe : t.pads.strobe = s.pads.strobe
  stop : t.sched.stop = s.sched.stop
  mapper : HookMoves s.mapper t.mapper

theorem StepEndFrame.refl (s : State) : StepEndFrame s s := ⟨rfl, rfl, rfl, rfl, rfl, rfl, HookMoves.refl _⟩

theorem StepEndFrame.trans {a b c : State} (h : StepEndFrame a b) (h' : StepEndFrame b c) : StepEndFrame a c :=
  ⟨h'.cpu.trans h.cpu, h'.mem.trans h.mem, h'.mirror.trans h.mirror, h'.buttons.trans h.buttons,
    h'.strobe.trans h.strobe, h'.stop.trans h.stop, h.mapper.trans h'.mapper⟩

/-- What the picture unit's moves leave alone is part of it. -/
theorem PictureFrame.stepEndFrame {s t : State} (h : PictureFrame s t) : StepEndFrame s t :=
  ⟨h.cpu, h.mem, h.mirror, congrArg Pads.buttons h.pads, congrArg Pads.strobe h.pads, congrArg Sched.stop h.sched,
    h.mapper⟩

/-- So is a change of the record, the accumulator, the place in the loop or the agents' lists. -/
theorem stepEndFrame_bookkeeping (s : State) (acc : Nat) (atTop : Bool) (dev : Dev) (env : Env) :
    StepEndFrame s { s with sched := { s.sched with acc := acc, atTop := atTop }, dev := dev, env := env } :=
  ⟨rfl, rfl, rfl, rfl, rfl, rfl, HookMoves.refl _⟩

theorem stepEndFrame_runDots (ds : List Dot) (s : State) : StepEndFrame s (s.runDots ds) := by
  induction ds generalizing s with
  | nil => exact .refl s
  | cons d ds ih => exact (pictureFrame_runDot d s).stepEndFrame.trans (ih _)

theorem stepEndFrame_reactions (s : State) : StepEndFrame s s.reactions := by
  unfold State.reactions
  split
  · split
    · exact .refl s
    · exact (stepEndFrame_bookkeeping s _ _ _ _).trans (stepEndFrame_runDots _ _)
  · exact .refl s

/-- A bus read advances a read counter of the controller port at most (R56, R93). -/
theorem stepEndFrame_read (a : Addr) (s : State) : StepEndFrame s (s.busReadEffect a) := by
  constructor
  case mapper =>
    rw [State.busReadEffect_mapper]
    exact HookMoves.refl _
  all_goals simp

theorem stepEndFrame_oamReadList (page : Byte) (is : List Byte) (s : State) :
    StepEndFrame s (State.oamReadList page is s) := by
  induction is generalizing s with
  | nil => exact .refl s
  | cons i is ih => exact (stepEndFrame_read _ s).trans ((stepEndFrame_bookkeeping _ _ _ _ _).trans (ih _))

theorem stepEndFrame_oamDma (s : State) : StepEndFrame s s.oamDma := by
  unfold State.oamDma
  split
  · exact .refl s
  · split
    · exact .refl s
    · exact (stepEndFrame_bookkeeping s _ _ _ _).trans (stepEndFrame_oamReadList _ _ _)

theorem stepEndFrame_nextIteration (s : State) : StepEndFrame s s.nextIteration :=
  (pictureFrame_ppuSteps 341 s).stepEndFrame.trans (stepEndFrame_bookkeeping _ _ _ _ _)

theorem stepEndFrame_runIterations (n : Nat) (s : State) : StepEndFrame s (s.runIterations n) := by
  induction n generalizing s with
  | zero => exact .refl s
  | succ n ih =>
    rw [State.runIterations_succ]
    split_ifs
    · exact .refl s
    · exact stepEndFrame_nextIteration s
    · exact (stepEndFrame_nextIteration s).trans (ih _)

theorem stepEndFrame_endOfStep (s : State) : StepEndFrame s s.endOfStep :=
  (stepEndFrame_reactions s).trans ((stepEndFrame_oamDma _).trans
    ((stepEndFrame_bookkeeping _ _ _ _ _).trans (stepEndFrame_runIterations _ _)))

/-- Settles O57: the fetch of an encoding, the step that runs it, and what the end of a step leaves alone. -/
theorem stepRunsTheDecodedInstruction : Obligations.StepRunsTheDecodedInstruction := by
  refine ⟨fun s i hstop hacc hreset hnmi hirq hbytes => ?_, fun s op i w hstop hacc hreset hnmi hirq hfetch => ?_,
    fun t => ?_⟩
  · exact step_of_fetch hstop hacc hreset hnmi hirq (State.fetch_of_fetchBytes (State.fetchBytes_of_peek hbytes))
  · exact step_of_fetch hstop hacc hreset hnmi hirq hfetch
  · obtain ⟨hcpu, hmem, hmirror, hbuttons, hstrobe, hstop, hmapper⟩ := stepEndFrame_endOfStep t
    obtain ⟨-, hcart, hparams, -, hchr⟩ := keeps_endOfStep t
    exact ⟨hcpu, hmem, hmirror, hcart, hparams, hbuttons, hstrobe, hstop, hchr, hmapper⟩

end Sys2Proof.Machine
end

section
/-! SUPPORT. The encoding lines of the rules against the opcode matrix (spec/30_encoding.md R101, R119, R123), and the
next state of a read, a store and a register form, field by field (spec/40_load_store_transfer.md R141 to R152). -/

namespace Sys2Proof.Machine

/-! ## Encoding lines -/

/-- One instruction of a cell of the matrix: the one with operand 0. -/
def cellSample (r : OpRow) : Instr :=
  match r.form with
  | .alone i => i
  | .oneByte mk => mk 0#8
  | .twoBytes mk => mk 0#16

/-- A cell has the opcode byte, mode, base cycles and `+` mark of an entry of an encoding line. -/
abbrev CellListed (r : OpRow) (e : EncForm) : Prop :=
  r.op = e.op ∧ (cellSample r).mode = e.mode ∧ baseCycles (cellSample r).mnemonic (cellSample r).mode = e.cycles ∧
    pagePenalty (cellSample r).mnemonic (cellSample r).mode = e.plus

/-- The mnemonic and the mode of an instruction are those of its cell, whatever its operand. -/
theorem cellSample_of_formMakes :
    ∀ r ∈ opTable, ∀ i, FormMakes r.form i → (cellSample r).mnemonic = i.mnemonic ∧ (cellSample r).mode = i.mode := by
  refine List.forall_iff_forall_mem.1 ?_
  simp only [opTable, List.forall_append]
  repeat' apply And.intro
  all_goals
    intro i h
    cases h
    exact ⟨rfl, rfl⟩

theorem cellSample_opcode {r : OpRow} (h : r ∈ opTable) : (cellSample r).opcode = r.op := by
  cases opTable_written r h with
  | alone hop => exact hop
  | oneByte hop => exact hop _
  | twoBytes hop => exact hop _

/-- The entries of an encoding line are the cells of its mnemonic. -/
abbrev LineOfCells (m : Mnemonic) (forms : List EncForm) : Prop :=
  (∀ r ∈ opTable, (cellSample r).mnemonic = m → ∃ e ∈ forms, CellListed r e) ∧
    ∀ e ∈ forms, ∃ r ∈ opTable, (cellSample r).mnemonic = m ∧ r.op = e.op

/-- An encoding line is checked cell by cell, not operand by operand. -/
theorem hasForms_of_cells {m : Mnemonic} {forms : List EncForm} (h : LineOfCells m forms) : HasForms m forms := by
  obtain ⟨hlisted, hcell⟩ := h
  constructor
  · rintro i rfl
    obtain ⟨form, hform, hmakes⟩ := opForm_opcode i
    have hrow := mem_of_opForm hform
    obtain ⟨hmnemonic, hmode⟩ := cellSample_of_formMakes _ hrow i hmakes
    obtain ⟨e, he, hop, hrest⟩ := hlisted _ hrow hmnemonic
    rw [hmnemonic, hmode] at hrest
    exact ⟨e, he, congrArg some hop, hrest⟩
  · intro e he
    obtain ⟨r, hr, hmnemonic, hop⟩ := hcell e he
    exact ⟨cellSample r, hmnemonic, congrArg some ((cellSample_opcode hr).trans hop)⟩

/-! ## The next state, field by field -/

theorem exec_read_eq {i : Instr} {f : Byte → Cpu → Cpu} (h : readEffect i.mnemonic = some f) (s : State) :
    exec i s = .next
      { (dataRead i s).2 with
        cpu := f (dataRead i s).1 s.cpu, sched := { s.sched with acc := s.sched.acc + cycleCost i s } } := by
  rw [exec_read h, State.addCycles, State.mapCpu, dataRead_cpu, dataRead_sched_eq]

theorem mnemonic_of_mode_ind {i : Instr} (h : i.mode = .IND) : i.mnemonic = .JMP := by
  cases i <;> simp only [Instr.mode, Instr.asm, reduceCtorEq] at h
  rfl

theorem mode_ne_ind_of_store {i : Instr} {f : Cpu → Byte} (h : storedRegister i.mnemonic = some f) : i.mode ≠ .IND := by
  intro hind
  rw [mnemonic_of_mode_ind hind] at h
  cases h

theorem exec_store_eq {i : Instr} {f : Cpu → Byte} (h : storedRegister i.mnemonic = some f) (s : State) :
    exec i s = .next
      { s.busWrite (ea i s).addr (f s.cpu) with
        cpu := s.cpu, sched := { s.sched with acc := s.sched.acc + cycleCost i s + oamStall (ea i s).addr } } := by
  rw [exec_store h, ea_st (mode_ne_ind_of_store h), State.addCycles, State.busWrite_cpu, State.busWrite_sched]
  simp only [Nat.add_right_comm]

theorem exec_register_eq {i : Instr} {f : Cpu → Cpu} (h : registerEffect i.mnemonic = some f) (s : State) :
    exec i s = .next
      { s with cpu := f s.cpu, sched := { s.sched with acc := s.sched.acc + cycleCost i s } } :=
  exec_register h s

/-! ## Loads, stores and transfers -/

/-- Settles O17: the three loads are reads whose effect on the registers is `Cpu.lda`, `Cpu.ldx` or `Cpu.ldy`. -/
theorem loadsWriteTheRegister : Obligations.LoadsWriteTheRegister := by
  refine ⟨hasForms_of_cells (by decide +kernel), hasForms_of_cells (by decide +kernel),
    hasForms_of_cells (by decide +kernel), fun i s => ⟨fun h => ?_, fun h => ?_, fun h => ?_⟩⟩
  · exact exec_read_eq (f := Cpu.lda) (by rw [h]; rfl) s
  · exact exec_read_eq (f := Cpu.ldx) (by rw [h]; rfl) s
  · exact exec_read_eq (f := Cpu.ldy) (by rw [h]; rfl) s

/-- Settles O18: the three stores are one bus write of the stored register. -/
theorem storesWriteTheAddress : Obligations.StoresWriteTheAddress := by
  refine ⟨hasForms_of_cells (by decide +kernel), hasForms_of_cells (by decide +kernel),
    hasForms_of_cells (by decide +kernel), fun i s => ⟨fun h => ?_, fun h => ?_, fun h => ?_⟩⟩
  · exact exec_store_eq (f := Cpu.a) (by rw [h]; rfl) s
  · exact exec_store_eq (f := Cpu.x) (by rw [h]; rfl) s
  · exact exec_store_eq (f := Cpu.y) (by rw [h]; rfl) s

/-- Settles O19: the six transfers are register forms of 2 cycles. -/
theorem transfersCopyARegister : Obligations.TransfersCopyARegister := by
  refine ⟨?_, ?_, ?_, ?_, ?_, ?_, fun s => ⟨?_, ?_, ?_, ?_, ?_, ?_⟩⟩
  iterate 6 exact hasForms_of_cells (by decide +kernel)
  · exact exec_register_eq (i := .tax) (f := Cpu.tax) rfl s
  · exact exec_register_eq (i := .tay) (f := Cpu.tay) rfl s
  · exact exec_register_eq (i := .txa) (f := Cpu.txa) rfl s
  · exact exec_register_eq (i := .tya) (f := Cpu.tya) rfl s
  · exact exec_register_eq (i := .tsx) (f := Cpu.tsx) rfl s
  · exact exec_register_eq (i := .txs) (f := Cpu.txs) rfl s

end Sys2Proof.Machine
end

section
/-! SUPPORT. A byte's sign, its signed value and its complement; the sum and the difference (spec/41_arithmetic_logic.md
R160 to R162, R176); the next state of the arithmetic and logic forms, of INC and DEC (R161 to R175). -/

namespace Sys2Proof.Machine

/-! ## A byte as a natural number and as an integer -/

theorem getLsbD_seven (v : Byte) : v.getLsbD 7 = decide (0x80 ≤ v.toNat) :=
  (BitVec.msb_eq_getLsbD_last v).symm.trans (BitVec.msb_eq_decide v)

theorem toInt_eq_of_sign (v : Byte) : v.toInt = (v.toNat : Int) - if 0x80 ≤ v.toNat then 256 else 0 := by
  have hmsb : v.msb = decide (0x80 ≤ v.toNat) := BitVec.msb_eq_decide v
  rw [BitVec.toInt_eq_msb_cond, hmsb]
  by_cases h : 0x80 ≤ v.toNat <;> simp [h]

theorem complement_toNat (m : Byte) : (m ^^^ 0xFF#8).toNat = 255 - m.toNat := by
  have hnot : m ^^^ 0xFF#8 = ~~~m := BitVec.xor_allOnes
  rw [hnot, BitVec.toNat_not]

theorem complement_sign (m : Byte) : (m ^^^ 0xFF#8).getLsbD 7 = !m.getLsbD 7 := by
  simp

/-- Complementing a byte negates it and takes 1 from it. -/
theorem complement_toInt (m : Byte) : (m ^^^ 0xFF#8).toInt = -m.toInt - 1 := by
  have := m.isLt
  rw [toInt_eq_of_sign, toInt_eq_of_sign, complement_toNat]
  omega

theorem add_one_eq_mod (v : Byte) : v + 1#8 = BitVec.ofNat 8 ((v.toNat + 1) % 256) := by
  apply BitVec.eq_of_toNat_eq
  simp [BitVec.toNat_add]

theorem sub_one_eq_mod (v : Byte) : v - 1#8 = BitVec.ofNat 8 ((v.toNat + 255) % 256) := by
  apply BitVec.eq_of_toNat_eq
  simp [BitVec.toNat_sub, Nat.add_comm]

/-! ## The sum and the difference -/

theorem bitNat_cast (b : Bool) : (bitNat b : Int) = if b then 1 else 0 := by cases b <;> rfl

/-- The sum narrowed, its carry and its overflow as R161 writes them. -/
theorem addWithCarry_eq (a m : Byte) (c : Bool) :
    addWithCarry a m c =
      { r := BitVec.ofNat 8 ((a.toNat + m.toNat + bitNat c) % 256)
        c := decide (a.toNat + m.toNat + bitNat c > 0xFF)
        v := decide (a.getLsbD 7 = m.getLsbD 7 ∧
          (BitVec.ofNat 8 ((a.toNat + m.toNat + bitNat c) % 256)).getLsbD 7 ≠ a.getLsbD 7) } := by
  have hr (n : Nat) : BitVec.ofNat 8 n = BitVec.ofNat 8 (n % 256) := BitVec.eq_of_toNat_eq (by simp)
  rw [addWithCarry, hr]
  simp only [Bool.decide_and, beq_eq_decide, bne, decide_not, ne_eq]

/-- The difference narrowed, its carry and its overflow as R162 writes them. -/
theorem subtractWithBorrow_eq (a m : Byte) (c : Bool) :
    subtractWithBorrow a m c =
      let diff : Int := (a.toNat : Int) - m.toNat - (1 - if c then 1 else 0)
      let r : Byte := BitVec.ofNat 8 (diff % 256).toNat
      { r := r
        c := decide (diff ≥ 0)
        v := decide (a.getLsbD 7 ≠ m.getLsbD 7 ∧ r.getLsbD 7 ≠ a.getLsbD 7) } := by
  have hr (d : Int) : BitVec.ofInt 8 d = BitVec.ofNat 8 (d % 256).toNat := by
    apply BitVec.eq_of_toNat_eq
    rw [BitVec.toNat_ofInt, BitVec.toNat_ofNat]
    omega
  rw [subtractWithBorrow, hr, bitNat_cast]
  simp only [Bool.decide_and, beq_eq_decide, bne, decide_not, ne_eq]

theorem addWithCarry_toNat (a m : Byte) (c : Bool) :
    (addWithCarry a m c).r.toNat = (a.toNat + m.toNat + bitNat c) % 256 :=
  BitVec.toNat_ofNat ..

/-- The overflow of a sum is the signed one (R160). -/
theorem addWithCarry_overflow_iff (a m : Byte) (c : Bool) :
    (addWithCarry a m c).v = true ↔ a.toInt + m.toInt + bitNat c < -128 ∨ 127 < a.toInt + m.toInt + bitNat c := by
  have := a.isLt; have := m.isLt; have := bitNat_le_one c
  have hv : (addWithCarry a m c).v = true ↔
      (0x80 ≤ a.toNat ↔ 0x80 ≤ m.toNat) ∧ ¬(0x80 ≤ (a.toNat + m.toNat + bitNat c) % 256 ↔ 0x80 ≤ a.toNat) := by
    rw [addWithCarry_eq, decide_eq_true_iff]
    simp only [getLsbD_seven, decide_eq_decide, ne_eq, BitVec.toNat_ofNat, Nat.reducePow, Nat.mod_mod]
  rw [hv, toInt_eq_of_sign, toInt_eq_of_sign]
  omega

/-- Without overflow the result is the exact signed sum (R160). -/
theorem addWithCarry_toInt {a m : Byte} {c : Bool} (h : (addWithCarry a m c).v = false) :
    (addWithCarry a m c).r.toInt = a.toInt + m.toInt + bitNat c := by
  have := a.isLt; have := m.isLt; have := bitNat_le_one c
  have hin := mt (addWithCarry_overflow_iff a m c).2 (by simp [h])
  rw [toInt_eq_of_sign, toInt_eq_of_sign] at *
  rw [toInt_eq_of_sign, addWithCarry_toNat]
  omega

/-- Subtraction is addition of the complement (R176). -/
theorem subtractWithBorrow_eq_addWithCarry (a m : Byte) (c : Bool) :
    subtractWithBorrow a m c = addWithCarry a (m ^^^ 0xFF#8) c := by
  have := m.isLt; have := bitNat_le_one c
  have hr : BitVec.ofInt 8 ((a.toNat : Int) - m.toNat - (1 - bitNat c)) =
      BitVec.ofNat 8 (a.toNat + (m ^^^ 0xFF#8).toNat + bitNat c) := by
    rw [complement_toNat]
    apply BitVec.eq_of_toNat_eq
    rw [BitVec.toNat_ofInt, BitVec.toNat_ofNat]
    omega
  have hc : (a.toNat : Int) - m.toNat - (1 - bitNat c) ≥ 0 ↔
      a.toNat + (m ^^^ 0xFF#8).toNat + bitNat c > 0xFF := by
    rw [complement_toNat]
    omega
  simp only [subtractWithBorrow, addWithCarry, hr, hc, complement_sign]
  cases a.getLsbD 7 <;> cases m.getLsbD 7 <;> rfl

theorem Cpu.sbc_eq_adc (m : Byte) : Cpu.sbc m = Cpu.adc (m ^^^ 0xFF#8) := by
  funext c
  rw [Cpu.sbc, Cpu.adc, subtractWithBorrow_eq_addWithCarry]

/-- Settles O13: the accumulator's part is the complement's arithmetic, and both steps are `immOp` of it. -/
theorem subtractionIsAdditionOfTheComplement : Obligations.SubtractionIsAdditionOfTheComplement := by
  refine ⟨subtractWithBorrow_eq_addWithCarry, fun m s => ?_⟩
  have hsbc : exec (.sbcImm m) s = .next (immOp Cpu.sbc 2 m s) := rfl
  rw [hsbc, immOp, Cpu.sbc_eq_adc]
  rfl

/-- Settles O14: the sum by its signs, the difference as the sum with the complement, which is `-m - 1`. -/
theorem carryIsUnsignedAndOverflowIsSigned : Obligations.CarryIsUnsignedAndOverflowIsSigned := by
  intro a m c k sum diff
  have hk : k = bitNat c := (bitNat_cast c).symm
  have hexact : a.toInt - m.toInt - (1 - k) = a.toInt + (m ^^^ 0xFF#8).toInt + bitNat c := by
    rw [complement_toInt, hk]
    ring
  have hdiff : diff = addWithCarry a (m ^^^ 0xFF#8) c := subtractWithBorrow_eq_addWithCarry a m c
  refine ⟨?_, ?_, ?_, ?_, ?_, ?_⟩
  · rw [hk]
    exact decide_eq_decide.2 (by omega)
  · rw [hk, Bool.eq_iff_iff, decide_eq_true_iff]
    exact addWithCarry_overflow_iff a m c
  · rw [hk]
    exact addWithCarry_toInt
  · rw [hk]
    rfl
  · rw [hexact, hdiff, Bool.eq_iff_iff, decide_eq_true_iff]
    exact addWithCarry_overflow_iff a _ c
  · rw [hexact, hdiff]
    exact addWithCarry_toInt

/-! ## Sums, logic and compares in every mode -/

/-- C, Z and N of a compare as R166 writes them. -/
theorem Flags.compare_eq (r m : Byte) (f : Flags) :
    f.compare r m =
      { f with
        c := decide (r.toNat ≥ m.toNat), z := decide (r = m)
        n := decide ((r.toNat + 256 - m.toNat) % 256 ≥ 0x80) } := by
  have hsub : (r - m).toNat = (r.toNat + 256 - m.toNat) % 256 := by
    have := m.isLt
    rw [BitVec.toNat_sub]
    omega
  rw [Flags.compare, getLsbD_seven, hsub]
  rfl

/-- Settles O20: ADC is a read whose effect is `Cpu.adc`, with the sum of `addWithCarry_eq`. -/
theorem adcAddsWithCarry : Obligations.AdcAddsWithCarry := by
  refine ⟨hasForms_of_cells (by decide +kernel), fun i s h => ?_⟩
  have hexec := exec_read_eq (f := Cpu.adc) (by rw [h]; rfl) s
  rw [Cpu.adc, addWithCarry_eq] at hexec
  exact hexec

/-- Settles O21: SBC is a read whose effect is `Cpu.sbc`, with the difference of `subtractWithBorrow_eq`. -/
theorem sbcSubtractsWithBorrow : Obligations.SbcSubtractsWithBorrow := by
  refine ⟨hasForms_of_cells (by decide +kernel), fun i s h => ?_⟩
  have hexec := exec_read_eq (f := Cpu.sbc) (by rw [h]; rfl) s
  rw [Cpu.sbc, subtractWithBorrow_eq] at hexec
  exact hexec

/-- Settles O22: the three are reads whose effect is `Cpu.and`, `Cpu.ora` or `Cpu.eor`. -/
theorem logicCombinesWithTheAccumulator : Obligations.LogicCombinesWithTheAccumulator := by
  refine ⟨hasForms_of_cells (by decide +kernel), hasForms_of_cells (by decide +kernel),
    hasForms_of_cells (by decide +kernel), fun i s => ⟨fun h => ?_, fun h => ?_, fun h => ?_⟩⟩
  · exact exec_read_eq (f := Cpu.and) (by rw [h]; rfl) s
  · exact exec_read_eq (f := Cpu.ora) (by rw [h]; rfl) s
  · exact exec_read_eq (f := Cpu.eor) (by rw [h]; rfl) s

/-- Settles O23: the four are reads that change the flags alone, by `Flags.compare` or `Flags.bitTest`. -/
theorem comparesAndBitSetTheFlags : Obligations.ComparesAndBitSetTheFlags := by
  refine ⟨hasForms_of_cells (by decide +kernel), hasForms_of_cells (by decide +kernel),
    hasForms_of_cells (by decide +kernel), hasForms_of_cells (by decide +kernel), fun i s => ?_⟩
  simp only [← Flags.compare_eq]
  refine ⟨fun h => ?_, fun h => ?_, fun h => ?_, fun h => ?_⟩
  · exact exec_read_eq (f := Cpu.cmp) (by rw [h]; rfl) s
  · exact exec_read_eq (f := Cpu.cpx) (by rw [h]; rfl) s
  · exact exec_read_eq (f := Cpu.cpy) (by rw [h]; rfl) s
  · exact exec_read_eq (f := Cpu.bit) (by rw [h]; rfl) s

/-! ## Increment and decrement -/

theorem mnemonic_of_mode_acc {i : Instr} (h : i.mode = .ACC) : i.mnemonic ∈ [.ASL, .LSR, .ROL, .ROR] := by
  cases i <;> simp only [Instr.mode, Instr.asm, reduceCtorEq] at h
  all_goals decide

/-- A read-modify-write form in memory: one read, one write at the same address, and the flags (R102, R190). -/
theorem exec_modify_eq {i : Instr} {f : Byte → Flags → Byte × Flags} (h : modifyEffect i.mnemonic = some f)
    (hm : i.mode ≠ .ACC) (s : State) :
    exec i s = .next
      { (dataRead i s).2.busWrite (ea i s).addr (f (dataRead i s).1 s.cpu.f).1 with
        cpu := { s.cpu with f := (f (dataRead i s).1 s.cpu.f).2 }
        sched := { s.sched with acc := s.sched.acc + cycleCost i s + oamStall (ea i s).addr } } := by
  rw [exec_modify h hm, dataRead_cpu, State.addCycles, State.mapFlags, State.busWrite_cpu, State.busWrite_sched,
    dataRead_cpu, dataRead_sched_eq]
  simp only [Nat.add_right_comm]

/-- Settles O24: INC and DEC are read-modify-write forms, and have no accumulator form. -/
theorem incrementAndDecrementMemory : Obligations.IncrementAndDecrementMemory := by
  refine ⟨hasForms_of_cells (by decide +kernel), hasForms_of_cells (by decide +kernel), fun i s => ?_⟩
  simp only [← add_one_eq_mod, ← sub_one_eq_mod]
  refine ⟨fun h => ?_, fun h => ?_⟩
  · exact exec_modify_eq (f := incByte) (by rw [h]; rfl) (mt mnemonic_of_mode_acc (by rw [h]; decide)) s
  · exact exec_modify_eq (f := decByte) (by rw [h]; rfl) (mt mnemonic_of_mode_acc (by rw [h]; decide)) s

/-- Settles O25: the four are register forms of 2 cycles. -/
theorem incrementAndDecrementIndex : Obligations.IncrementAndDecrementIndex := by
  refine ⟨?_, ?_, ?_, ?_, fun s => ?_⟩
  iterate 4 exact hasForms_of_cells (by decide +kernel)
  simp only [← add_one_eq_mod, ← sub_one_eq_mod]
  refine ⟨?_, ?_, ?_, ?_⟩
  · exact exec_register_eq (i := .inx) (f := Cpu.inx) rfl s
  · exact exec_register_eq (i := .iny) (f := Cpu.iny) rfl s
  · exact exec_register_eq (i := .dex) (f := Cpu.dex) rfl s
  · exact exec_register_eq (i := .dey) (f := Cpu.dey) rfl s

end Sys2Proof.Machine
end

section
/-! SUPPORT. The results of a one-bit shift and of a rotation through the carry, and the next state of ASL, LSR, ROL and
ROR on the accumulator and in memory (spec/42_shift_rotate.md R190 to R194). -/

namespace Sys2Proof.Machine

/-! ## The result byte with its flags -/

theorem ofNat_mod_byte (n : Nat) : BitVec.ofNat 8 (n % 256) = BitVec.ofNat 8 n :=
  BitVec.eq_of_toNat_eq (by simp)

/-- The bit that ROL brings in is below the doubled operand, so the union of R193 is a sum. -/
theorem rotateLeft_byte_eq (v : Byte) (c : Bool) :
    BitVec.ofNat 8 (v.toNat * 2) ||| BitVec.ofNat 8 (bitNat c) = BitVec.ofNat 8 (v.toNat * 2 % 256 + bitNat c) := by
  have hbit : bitNat c < 2 ^ 1 := Nat.lt_succ_of_le (bitNat_le_one c)
  have hsum : v.toNat * 2 ||| bitNat c = v.toNat * 2 + bitNat c := by
    rw [Nat.mul_comm]
    exact (Nat.two_pow_add_eq_or_of_lt hbit v.toNat).symm
  rw [← BitVec.ofNat_or, hsum, ← ofNat_mod_byte, ← ofNat_mod_byte (_ % 256 + _), Nat.mod_add_mod]

/-- The bit that ROR brings in is above the halved operand, so the union of R194 is a sum. -/
theorem rotateRight_byte_eq (v : Byte) (c : Bool) :
    BitVec.ofNat 8 (v.toNat / 2) ||| BitVec.ofNat 8 (bitNat c * 128) =
      BitVec.ofNat 8 (v.toNat / 2 + bitNat c * 128) := by
  have hhalf : v.toNat / 2 < 2 ^ 7 := by
    have := v.isLt
    omega
  have hsum : v.toNat / 2 ||| bitNat c * 128 = v.toNat / 2 + bitNat c * 128 := by
    rw [Nat.or_comm, Nat.add_comm, Nat.mul_comm]
    exact (Nat.two_pow_add_eq_or_of_lt hhalf (bitNat c)).symm
  rw [← BitVec.ofNat_or, hsum]

/-- A result byte, with C the bit shifted out and Z and N those of the result (R190). -/
def shifted (r : Byte) (out : Bool) (f : Flags) : Byte × Flags :=
  (r, { f with c := out, z := decide (r = 0x00#8), n := r.getLsbD 7 })

theorem aslByte_eq (v : Byte) (f : Flags) :
    aslByte v f = shifted (BitVec.ofNat 8 (v.toNat * 2 % 256)) (v.getLsbD 7) f := by
  rw [ofNat_mod_byte]
  rfl

theorem lsrByte_eq (v : Byte) (f : Flags) : lsrByte v f = shifted (BitVec.ofNat 8 (v.toNat / 2)) (v.getLsbD 0) f := rfl

theorem rolByte_eq (v : Byte) (f : Flags) :
    rolByte v f = shifted (BitVec.ofNat 8 (v.toNat * 2 % 256 + bitNat f.c)) (v.getLsbD 7) f := by
  rw [← rotateLeft_byte_eq]
  rfl

theorem rorByte_eq (v : Byte) (f : Flags) :
    rorByte v f = shifted (BitVec.ofNat 8 (v.toNat / 2 + bitNat f.c * 128)) (v.getLsbD 0) f := by
  rw [← rotateRight_byte_eq]
  rfl

/-! ## The next state -/

/-- `v` of R190: the accumulator in mode `ACC`, the byte read from memory otherwise. -/
def shiftOperand (i : Instr) (s : State) : Byte := if i.mode = .ACC then s.cpu.a else (dataRead i s).1

/-- `store(r)` of R190 with the flags and the cycles: into the accumulator, or by the one write at the address read. -/
def storeShifted (i : Instr) (s : State) (r : Byte × Flags) : State :=
  if i.mode = .ACC then
    { s with
      cpu := { s.cpu with a := r.1, f := r.2 }, sched := { s.sched with acc := s.sched.acc + cycleCost i s } }
  else
    { (dataRead i s).2.busWrite (ea i s).addr r.1 with
      cpu := { s.cpu with f := r.2 }
      sched := { s.sched with acc := s.sched.acc + cycleCost i s + oamStall (ea i s).addr } }

/-- The accumulator form and the memory forms do the same to their operand. -/
theorem exec_shift_eq {i : Instr} {f : Byte → Flags → Byte × Flags} (h : modifyEffect i.mnemonic = some f) (s : State) :
    exec i s = .next (storeShifted i s (f (shiftOperand i s) s.cpu.f)) := by
  by_cases hm : i.mode = .ACC
  · rw [storeShifted, shiftOperand, if_pos hm, if_pos hm]
    exact exec_accumulator h hm s
  · rw [storeShifted, shiftOperand, if_neg hm, if_neg hm]
    exact exec_modify_eq h hm s

/-! ## Shifts and rotates -/

/-- Settles O26: both store the operand's `shifted` byte, by `aslByte_eq` and `lsrByte_eq`. -/
theorem shiftsMoveOneBit : Obligations.ShiftsMoveOneBit := by
  refine ⟨hasForms_of_cells (by decide +kernel), hasForms_of_cells (by decide +kernel),
    fun i s => ⟨fun h => ?_, fun h => ?_⟩⟩
  · have hexec := exec_shift_eq (f := aslByte) (by rw [h]; rfl) s
    rw [aslByte_eq] at hexec
    exact hexec
  · have hexec := exec_shift_eq (f := lsrByte) (by rw [h]; rfl) s
    rw [lsrByte_eq] at hexec
    exact hexec

/-- Settles O27: both store the operand's `shifted` byte, by `rolByte_eq` and `rorByte_eq`. -/
theorem rotatesGoThroughTheCarry : Obligations.RotatesGoThroughTheCarry := by
  refine ⟨hasForms_of_cells (by decide +kernel), hasForms_of_cells (by decide +kernel),
    fun i s => ⟨fun h => ?_, fun h => ?_⟩⟩
  · have hexec := exec_shift_eq (f := rolByte) (by rw [h]; rfl) s
    rw [rolByte_eq] at hexec
    exact hexec
  · have hexec := exec_shift_eq (f := rorByte) (by rw [h]; rfl) s
    rw [rorByte_eq] at hexec
    exact hexec

end Sys2Proof.Machine
end

section
/-! SUPPORT. The page-wrapped pointer read of JMP indirect, the word RTS returns to and the branch of rule R203, each in
the spec's arithmetic (spec/30_encoding.md R112, R116; spec/43_control_flow.md R201 to R204), and the next state of the
jumps, the call, the return and the eight branches (R201 to R212). -/

namespace Sys2Proof.Machine

/-! ## Jumps -/

/-- The word of two bytes as a number, high byte first. -/
theorem joinBytes_eq_ofNat (hi lo : Byte) : joinBytes hi lo = BitVec.ofNat 16 (hi.toNat * 256 + lo.toNat) := by
  rw [← joinBytes_toNat, BitVec.ofNat_toNat, BitVec.setWidth_eq]

/-- The two byte masks join the high byte of one word to the low byte of another. -/
theorem mask_or_mask_eq_joinBytes (u v : Addr) :
    (u &&& 0xFF00#16) ||| (v &&& 0x00FF#16) = joinBytes (highByte u) (lowByte v) := by
  have hhigh : ∀ k < 16, (0xFF00#16).getLsbD k = decide (8 ≤ k) := by decide
  have hlow : ∀ k < 16, (0x00FF#16).getLsbD k = decide (k < 8) := by decide
  apply BitVec.eq_of_getLsbD_eq
  intro k hk
  rw [BitVec.getLsbD_or, BitVec.getLsbD_and, BitVec.getLsbD_and, hhigh k hk, hlow k hk, joinBytes,
    BitVec.getLsbD_append]
  by_cases h : k < 8
  · simp [h, lowByte]
  · have hbit : k - 8 < 8 ∧ 8 + (k - 8) = k := by omega
    simp [h, hbit, Nat.not_lt.1 h, highByte]

/-- The address of the high byte of a pointer: the next address within the pointer's own page (R112). -/
theorem wrappedNext_eq (w : Addr) :
    (w &&& 0xFF00#16) ||| ((w + 1#16) &&& 0x00FF#16) =
      BitVec.ofNat 16 (w.toNat / 256 * 256 + (w.toNat % 256 + 1) % 256) := by
  rw [mask_or_mask_eq_joinBytes, joinBytes_eq_ofNat, highByte_toNat, lowByte_toNat, BitVec.toNat_add]
  simp

theorem State.busRead16Wrapped_eq (w : Addr) (s : State) :
    s.busRead16Wrapped w =
      let lo := s.busRead w
      let hi := lo.2.busRead (BitVec.ofNat 16 (w.toNat / 256 * 256 + (w.toNat % 256 + 1) % 256))
      (BitVec.ofNat 16 (hi.1.toNat * 256 + lo.1.toNat), hi.2) := by
  simp only [State.busRead16Wrapped, wrappedNext_eq, joinBytes_eq_ofNat]

/-- Settles O28: JMP indirect reads its pointer by `State.busRead16Wrapped`, and a bus read leaves the registers and the
scheduler as they were. -/
theorem jumpsSetThePc : Obligations.JumpsSetThePc := by
  refine ⟨hasForms_of_cells (by decide +kernel), fun w s => ⟨exec_jmpAbs w s, ?_⟩⟩
  simp only [exec_jmpInd, eaInd, State.busRead16Wrapped_eq, State.setPc, State.addCycles, State.busRead_snd,
    State.busReadEffect_cpu, State.busReadEffect_sched]

/-! ## Call and return -/

/-- The word two pulled bytes make with one added, modulo 65536 (R204). -/
theorem joinBytes_add_one (hi lo : Byte) :
    joinBytes hi lo + 1#16 = BitVec.ofNat 16 ((hi.toNat * 256 + lo.toNat + 1) % 65536) := by
  apply BitVec.eq_of_toNat_eq
  rw [BitVec.toNat_add, joinBytes_toNat]
  simp

/-- Settles O29: JSR pushes the two bytes of its return word, RTS pulls such a word and adds one. -/
theorem callAndReturn : Obligations.CallAndReturn := by
  refine ⟨hasForms_of_cells (by decide +kernel), hasForms_of_cells (by decide +kernel), fun w s => ?_, fun s => ?_⟩
  · rw [exec_jsr, State.push16_eq, State.addCycles, State.setPc, afterPushes_sched]
    rfl
  · rw [exec_rts, State.pull16_eq, joinBytes_add_one]
    rfl

/-! ## Branches -/

/-- The target of a branch with its offset as an integer of -128 to 127 (R116). -/
theorem relTarget_eq (o : Byte) (s : State) :
    relTarget o s =
      BitVec.ofInt 16 ((s.cpu.pc.toNat : Int) + (if o.toNat < 0x80 then (o.toNat : Int) else o.toNat - 256)) := by
  have hoffset : (if o.toNat < 0x80 then (o.toNat : Int) else o.toNat - 256) = o.toInt := by
    rw [toInt_eq_of_sign]
    split <;> split <;> omega
  rw [hoffset, BitVec.ofInt_add, relTarget, BitVec.signExtend, BitVec.ofInt_natCast, BitVec.ofNat_toNat,
    BitVec.setWidth_eq]

/-- The branch operation is the common rule R203. -/
theorem branchOp_eq (taken : Bool) (o : Byte) (s : State) : branchOp taken o s = branchEffect taken o s := by
  cases taken with
  | false => rfl
  | true =>
    have hcost (t : Addr) :
        2 + (1 + bitNat (highByte t != highByte s.cpu.pc)) = if t.toNat / 256 = s.cpu.pc.toNat / 256 then 3 else 4 := by
      simp only [← highByte_eq_iff]
      by_cases h : highByte t = highByte s.cpu.pc <;> simp [h, bitNat]
    simp only [branchOp, branchEffect, if_true, hcost, relTarget_eq]
    rfl

/-- Settles O30: each branch is the common rule R203 on its own flag. -/
theorem branchesTestOneFlag : Obligations.BranchesTestOneFlag := by
  refine ⟨?_, ?_, ?_, ?_, ?_, ?_, ?_, ?_, fun o s => ⟨?_, ?_, ?_, ?_, ?_, ?_, ?_, ?_⟩⟩
  iterate 8 exact hasForms_of_cells (by decide +kernel)
  all_goals exact congrArg Host.Outcome.next (branchOp_eq _ o s)

end Sys2Proof.Machine
end

section
/-! SUPPORT. A pull as the byte it answers and the stack pointer it leaves, and the next state of the stack, flag and
system instructions (spec/44_stack_flags_system.md R221 to R234). -/

namespace Sys2Proof.Machine

/-! ## Break and return from a trap -/

/-- Settles O33: BRK is the shared trap entry, here with the IRQ/BRK vector. -/
theorem brkTakesTheTrap : Obligations.BrkTakesTheTrap := by
  refine ⟨hasForms_of_cells (by decide +kernel), fun s => ?_⟩
  rw [exec_brk, State.enterTrap_eq _ _ _ (by decide) (by decide), State.addCycles, afterPushes_sched]
  rfl

/-- Settles O34: RTI is the shared return from a trap; the word it pulls is joined by arithmetic. -/
theorem rtiRestoresStatusAndPc : Obligations.RtiRestoresStatusAndPc := by
  refine ⟨hasForms_of_cells (by decide +kernel), fun s => ?_⟩
  rw [exec_rti, State.returnFromTrap_eq, joinBytes_eq_ofNat]
  rfl

/-! ## Pushes and pulls -/

theorem State.pull8_eq (s : State) : s.pull8 = (pulledByte 1 s, s.setSp (s.cpu.sp + 1#8)) := by
  rw [pulledByte_eq]
  exact Prod.ext s.pull8_fst s.pull8_snd

/-- Settles O31: PHA and PHP are one push each, PLA and PLP one pull each. -/
theorem pushesAndPulls : Obligations.PushesAndPulls := by
  refine ⟨?_, ?_, ?_, ?_, fun s => ⟨?_, ?_, ?_, ?_⟩⟩
  iterate 4 exact hasForms_of_cells (by decide +kernel)
  · rw [exec_pha, State.push8_eq]
    rfl
  · rw [exec_php, State.push8_eq]
    rfl
  · rw [exec_pla, State.pull8_eq]
    rfl
  · rw [exec_plp, State.pull8_eq]
    rfl

/-! ## Flag instructions and NOP -/

/-- Settles O32: the eight are register forms of 2 cycles. -/
theorem flagInstructionsAndNop : Obligations.FlagInstructionsAndNop := by
  refine ⟨?_, ?_, ?_, ?_, ?_, ?_, ?_, ?_, fun s => ⟨?_, ?_, ?_, ?_, ?_, ?_, ?_, ?_⟩⟩
  iterate 8 exact hasForms_of_cells (by decide +kernel)
  · exact exec_register_eq (i := .clc) (f := Cpu.clc) rfl s
  · exact exec_register_eq (i := .sec) (f := Cpu.sec) rfl s
  · exact exec_register_eq (i := .cli) (f := Cpu.cli) rfl s
  · exact exec_register_eq (i := .sei) (f := Cpu.sei) rfl s
  · exact exec_register_eq (i := .cld) (f := Cpu.cld) rfl s
  · exact exec_register_eq (i := .sed) (f := Cpu.sed) rfl s
  · exact exec_register_eq (i := .clv) (f := Cpu.clv) rfl s
  · exact exec_register_eq (i := .nop) (f := id) rfl s

end Sys2Proof.Machine
end

section
/-! SUPPORT. The header of a cartridge image in the spec's arithmetic, and the bytes a loaded image's arrays hold
(spec/60_exceptions.md R280, R281). -/

namespace Sys2Proof.Machine

/-! ## The header -/

/-- A bit of a word as a digit of its number. -/
theorem getLsbD_eq_decide {w : Nat} (v : BitVec w) (k : Nat) : v.getLsbD k = decide (v.toNat / 2 ^ k % 2 = 1) := by
  rw [← BitVec.testBit_toNat, Nat.testBit_eq_decide_div_mod_eq]

/-- A mask of the bits from `k` on clears the digits below. -/
theorem toNat_and_highMask {w : Nat} (v : BitVec w) {m : BitVec w} {k : Nat}
    (hmask : ∀ j < w, m.getLsbD j = decide (k ≤ j)) : (v &&& m).toNat = v.toNat / 2 ^ k * 2 ^ k := by
  have hshift : v &&& m = (v >>> k) <<< k := by
    refine BitVec.eq_of_getLsbD_eq fun j hj => ?_
    rw [BitVec.getLsbD_and, hmask j hj, BitVec.getLsbD_shiftLeft, BitVec.getLsbD_ushiftRight]
    by_cases h : k ≤ j
    · simp [h, hj, Nat.not_lt.2 h]
    · simp [h, Nat.not_le.1 h]
  have hlt : v.toNat / 2 ^ k * 2 ^ k < 2 ^ w := (Nat.div_mul_le_self _ _).trans_lt v.isLt
  rw [hshift, BitVec.toNat_shiftLeft, BitVec.toNat_ushiftRight, Nat.shiftLeft_eq, Nat.shiftRight_eq_div_pow,
    Nat.mod_eq_of_lt hlt]

/-- The mapper number is the high digit of byte 7 before that of byte 6 (R280). -/
theorem mapperNumber_eq (image : List Byte) :
    mapperNumber image = (headerByte image 6).toNat / 16 + 16 * ((headerByte image 7).toNat / 16) := by
  have hlow : (headerByte image 6).toNat / 16 < 2 ^ 4 := by
    have := (headerByte image 6).isLt
    omega
  rw [mapperNumber, BitVec.toNat_or, toNat_and_highMask (k := 4) _ (by decide), BitVec.toNat_ushiftRight,
    Nat.shiftRight_eq_div_pow, Nat.or_comm, Nat.mul_comm, Nat.add_comm]
  exact (Nat.two_pow_add_eq_or_of_lt hlow _).symm

/-- The mapper numbers with a variant (R281). -/
theorem variantOf_eq_some_iff (n : Nat) : (∃ variant, variantOf n = some variant) ↔ n ∈ [0, 1, 2, 3, 4, 5, 7, 9] := by
  unfold variantOf
  split <;> simp_all

/-! ## The arrays -/

/-- The store of `n` bytes of a list from `start` on holds them. -/
theorem read_memoryFrom_slice (image : List Byte) {start n k : Nat} (hk : k < n) :
    (memoryFrom 0 ((image.drop start).take n)).read k = image.getD (start + k) 0#8 := by
  have h := read_memoryFrom ((image.drop start).take n) 0 k
  rw [Nat.zero_add, List.getD_eq_getElem?_getD, List.getElem?_take_of_lt hk, List.getElem?_drop] at h
  rw [h, List.getD_eq_getElem?_getD, unlistedByte]

/-- Settles O10: `loadImage_ok_iff` with the header's fields as numbers. -/
theorem loaderReadsAndChecksTheImage : Obligations.LoaderReadsAndChecksTheImage := by
  refine ⟨fun image im h => ?_, fun image => ?_, rfl, fun image im ram p env h => ?_⟩
  · obtain ⟨hmagic, -, -, variant, hvariant, rfl⟩ := (loadImage_ok_iff image im).1 h
    rw [mapperNumber_eq] at hvariant
    refine ⟨hmagic, rfl, rfl, ?_, ?_, hvariant, fun k hk => ?_, fun k hk => ?_⟩
    · exact (getLsbD_eq_decide (headerByte image 6) 0).trans (by rw [pow_zero, Nat.div_one]; rfl)
    · exact getLsbD_eq_decide (headerByte image 6) 1
    · exact read_memoryFrom_slice image hk
    · exact read_memoryFrom_slice image hk
  · have hnumber := variantOf_eq_some_iff (mapperNumber image)
    rw [mapperNumber_eq] at hnumber
    simp only [loadImage_ok_iff, mapperNumber_eq]
    constructor
    · rintro ⟨im, hmagic, hprg, hlength, variant, hvariant, -⟩
      exact ⟨hmagic, hnumber.1 ⟨variant, hvariant⟩, hprg, hlength⟩
    · rintro ⟨hmagic, hlisted, hprg, hlength⟩
      obtain ⟨variant, hvariant⟩ := hnumber.2 hlisted
      exact ⟨_, hmagic, hprg, hlength, variant, hvariant, rfl⟩
  · obtain ⟨-, -, -, variant, -, rfl⟩ := (loadImage_ok_iff image im).1 h
    rw [State.powerOn_eq]
    refine ⟨rfl, rfl, ?_⟩
    cases variant <;> rfl

end Sys2Proof.Machine
end

section
/-! SUPPORT. Bank views in the spec's formula, and what a read and a write of the cartridge range and of the pattern space
do, for any mapper variant (spec/60_exceptions.md R282 to R285). -/

namespace Sys2Proof.Machine

/-! ## Bank views -/

theorem bankIndex_natCast (len sz b off : Nat) : bankIndex len sz (b : Int) off = bankView len sz b off := by
  rw [bankIndex, bankView, ← Int.natCast_emod, Int.toNat_natCast]

theorem bankIndex_lt {len : Nat} (h : 0 < len) (sz : Nat) (b : Int) (off : Nat) : bankIndex len sz b off < len :=
  Nat.mod_lt _ h

theorem prgIndex_lt {c : Cart} (h : 1 ≤ c.prg16) (m : MapperState) (a : Addr) : prgIndex c m a < 16384 * c.prg16 := by
  have hlen : 0 < c.prgLength := Nat.mul_pos (by decide) h
  unfold prgIndex
  split
  · exact bankIndex_lt hlen _ _ _
  · exact Nat.mod_lt _ hlen

theorem chrIndex_lt (c : Cart) (m : MapperState) (a : PatternAddr) : chrIndex c m a < c.chrLength := by
  unfold chrIndex
  by_cases h : c.chr8 = 0
  · rw [if_pos h, Cart.chrLength, if_pos h]
    exact a.isLt
  · rw [if_neg h]
    refine bankIndex_lt ?_ _ _ _
    rw [Cart.chrLength, if_neg h]
    omega

/-- Settles O45: every index is reduced modulo the length of its array, but a CHR-RAM's, which is a 13-bit address. -/
theorem bankIndexesStayInBounds : Obligations.BankIndexesStayInBounds :=
  ⟨bankIndex_natCast, fun _ m a h => prgIndex_lt h m a, chrIndex_lt⟩

/-! ## Reads through a window -/

/-- The `k`-th 8 KiB bank from the end, as the bank number a window is on (R300, R305). -/
theorem natCast_lastBank {prg16 k : Nat} (hk : k ≤ 2 * prg16) :
    ((2 * prg16 - k : Nat) : Int) = 2 * (prg16 : Int) - k := by
  omega

section
variable {s : State} {a : Addr} {c : PatternAddr} {sz b : Nat}

/-- A read of the cartridge range shows the byte of the bank its window is on (R283). -/
theorem State.busRead_of_prgWindow (ha : 0x8000 ≤ a.toNat)
    (h : prgWindow s.cart.prg16 s.mapper a.toNat = some (sz, (b : Int))) :
    (s.busRead a).1 = s.cart.prg.read (bankView (16384 * s.cart.prg16) sz b (a.toNat % sz)) := by
  simp only [State.busRead_cartridge s (busRegion_cartridge ha), mapperRead, prgIndex, h, bankIndex_natCast,
    Cart.prgLength]

/-- A CHR-ROM is read through the variant's window (R285). -/
theorem State.readVram_of_chrWindow (hchr : s.cart.chr8 ≠ 0) (h : chrWindow s.mapper c = (sz, b)) :
    s.readVram c = s.chr.read (bankView (8192 * s.cart.chr8) sz b (c.toNat % sz)) := by
  simp only [State.readVram, chrIndex, if_neg hchr, h, bankIndex_natCast, Cart.chrLength]

end

/-! ## Writes of mapper registers -/

/-- A write of the cartridge range leaves the registers and the mirroring mode the mapper answers, and nothing else
changes (R57, R65). -/
theorem State.busWrite_of_write {s : State} {a : Addr} {v : Byte} {m : MapperState} {mode : Option Mirroring}
    (ha : 0x8000 ≤ a.toNat) (h : s.mapper.write s.params s.cart.chr8 v a = (m, mode)) :
    s.busWrite a v = { s with mapper := m, mirror := mode.getD s.mirror } := by
  rw [s.busWrite_cartridge v (busRegion_cartridge ha), State.mapperWrite, h]

/-- A write that keeps the registers changes the mirroring mode at most. -/
theorem State.busWrite_of_mode {s : State} {a : Addr} {v : Byte} {mode : Option Mirroring} (ha : 0x8000 ≤ a.toNat)
    (h : s.mapper.write s.params s.cart.chr8 v a = (s.mapper, mode)) :
    s.busWrite a v = { s with mirror := mode.getD s.mirror } := State.busWrite_of_write ha h

theorem State.busWrite_of_unchanged {s : State} {a : Addr} {v : Byte} (ha : 0x8000 ≤ a.toNat)
    (h : s.mapper.write s.params s.cart.chr8 v a = (s.mapper, none)) : s.busWrite a v = s := State.busWrite_of_write ha h

/-! ## The pattern space -/

theorem State.readVram_ram {s : State} (h : s.cart.chr8 = 0) (a : PatternAddr) : s.readVram a = s.chr.read a.toNat := by
  rw [State.readVram, chrIndex, if_pos h]

theorem State.writeVram_ram {s : State} (h : s.cart.chr8 = 0) (a : PatternAddr) (v : Byte) :
    s.writeVram a v = { s with chr := s.chr.write a.toNat v } := if_pos h

theorem State.writeVram_rom {s : State} (h : s.cart.chr8 ≠ 0) (a : PatternAddr) (v : Byte) : s.writeVram a v = s :=
  if_neg h

theorem State.readTile_getD {s : State} {a : PatternAddr} {k : Nat} (hk : k < 16) :
    (s.readTile a).getD k 0#8 = s.readVram (BitVec.ofNat 13 ((a.toNat + k) % 0x2000)) := by
  have haddr : a + BitVec.ofNat 13 k = BitVec.ofNat 13 ((a.toNat + k) % 0x2000) := by
    apply BitVec.eq_of_toNat_eq
    simp only [BitVec.toNat_add, BitVec.toNat_ofNat]
    omega
  simp [State.readTile, List.getD_eq_getElem?_getD, hk, haddr]

/-- Without CHR banks the CHR registers of the MMC1 keep their value (R285, R297). -/
theorem Mmc1.write_chr_of_ram (v : Byte) (a : Addr) (r : Mmc1) :
    (r.write 0 v a).1.chr0 = r.chr0 ∧ (r.write 0 v a).1.chr1 = r.chr1 := by
  unfold Mmc1.write
  dsimp only
  split
  · exact ⟨rfl, rfl⟩
  · split
    · split <;> exact ⟨rfl, rfl⟩
    · exact ⟨rfl, rfl⟩

/-- So do those of the MMC2 (R285, R301). -/
theorem Mmc2.write_chr_of_ram (v : Byte) (a : Addr) (r : Mmc2) :
    (r.write 0 v a).1.chrFD0 = r.chrFD0 ∧ (r.write 0 v a).1.chrFE0 = r.chrFE0 ∧
      (r.write 0 v a).1.chrFD1 = r.chrFD1 ∧ (r.write 0 v a).1.chrFE1 = r.chrFE1 := by
  unfold Mmc2.write
  split <;> exact ⟨rfl, rfl, rfl, rfl⟩

/-- `R[k] <- v` of the MMC3, register by register (R307). -/
theorem Mmc3.setTarget_eq (k : BitVec 3) (v : Byte) (r : Mmc3) :
    r.setTarget k v =
      { r with
        r0 := if k.toNat = 0 then v else r.r0, r1 := if k.toNat = 1 then v else r.r1
        r2 := if k.toNat = 2 then v else r.r2, r3 := if k.toNat = 3 then v else r.r3
        r4 := if k.toNat = 4 then v else r.r4, r5 := if k.toNat = 5 then v else r.r5
        r6 := if k.toNat = 6 then v else r.r6, r7 := if k.toNat = 7 then v else r.r7 } := by
  have hk : k.toNat < 8 := k.isLt
  unfold Mmc3.setTarget
  generalize k.toNat = n at hk
  interval_cases n <;> rfl

/-- So do the six CHR registers of the MMC3: only `R[6]` and `R[7]` are written (R285, R307). -/
theorem Mmc3.write_chr_of_ram (v : Byte) (a : Addr) (r : Mmc3) :
    (r.write 0 v a).1.r0 = r.r0 ∧ (r.write 0 v a).1.r1 = r.r1 ∧ (r.write 0 v a).1.r2 = r.r2 ∧
      (r.write 0 v a).1.r3 = r.r3 ∧ (r.write 0 v a).1.r4 = r.r4 ∧ (r.write 0 v a).1.r5 = r.r5 := by
  unfold Mmc3.write
  split
  case h_2 =>
    dsimp only
    split_ifs with hk
    · have hprg : 6 ≤ (r.bsel.extractLsb' 0 3).toNat := hk.resolve_right (Nat.lt_irrefl 0)
      rw [Mmc3.setTarget_eq]
      refine ⟨if_neg ?_, if_neg ?_, if_neg ?_, if_neg ?_, if_neg ?_, if_neg ?_⟩ <;> omega
    · exact ⟨rfl, rfl, rfl, rfl, rfl, rfl⟩
  all_goals exact ⟨rfl, rfl, rfl, rfl, rfl, rfl⟩

/-- Settles O46: CHR-RAM and CHR-ROM by their rules, a tile byte by byte, and each variant's registers by what its writes
keep. -/
theorem patternSpace : Obligations.PatternSpace := by
  refine ⟨fun s a v => ⟨fun h => ⟨s.readVram_ram h a, s.writeVram_ram h a v⟩, fun h => ⟨?_, s.writeVram_rom h a v⟩,
    fun h hwf => ?_, by simp [State.readTile], fun k hk => State.readTile_getD hk⟩, fun s a v hchr => ?_⟩
  · exact State.readVram_of_chrWindow h rfl
  · have hram : (s.writeVram a v).cart.chr8 = 0 := by rwa [State.writeVram_ram h]
    rw [State.readVram_ram hram, State.writeVram_ram h]
    exact Memory.read_write_same hwf _ v
  · simp only [State.mapperWrite_mapper, hchr]
    refine ⟨fun csel h => ?_, fun r h => ?_, fun r h => ?_, fun r h => ?_⟩
    · rw [h]
      rfl
    · rw [h]
      exact ⟨_, rfl, r.write_chr_of_ram v a⟩
    · rw [h]
      exact ⟨_, rfl, r.write_chr_of_ram v a⟩
    · rw [h]
      exact ⟨_, rfl, r.write_chr_of_ram v a⟩

end Sys2Proof.Machine
end

section
/-! SUPPORT. The variants without a serial port, a latch or a counter: NROM, UNROM, CNROM, AxROM and the MMC5 stub
(spec/60_exceptions.md R286 to R290, R311). -/

namespace Sys2Proof.Machine

/-- Settles O47: each variant's windows and its register write, by the rules of `State.busRead_of_prgWindow`,
`State.readVram_of_chrWindow` and `State.busWrite_of_write`. -/
theorem simpleMappers : Obligations.SimpleMappers := by
  intro s a v c ha hprg n16 shows chrShows low
  have hlast : ((n16 - 1 : Nat) : Int) = (n16 : Int) - 1 := Nat.cast_pred hprg
  refine ⟨fun h => ⟨?_, fun hchr => ?_, ?_⟩, fun sel h => ⟨?_, fun hchr => ?_, ?_⟩, fun csel h => ⟨?_, fun hchr => ?_, ?_⟩,
    fun sel h => ⟨?_, fun hchr => ?_, ?_⟩⟩
  · refine State.busRead_of_prgWindow ha ?_
    rw [h, Nat.cast_ite, hlast]
    rfl
  · exact State.readVram_of_chrWindow hchr (by rw [h]; rfl)
  · exact State.busWrite_of_unchanged ha (by rw [h]; rfl)
  · refine State.busRead_of_prgWindow ha ?_
    rw [h, Nat.cast_ite, hlast]
    rfl
  · exact State.readVram_of_chrWindow hchr (by rw [h]; rfl)
  · exact State.busWrite_of_write ha (mode := none) (by rw [h]; rfl)
  · refine State.busRead_of_prgWindow ha ?_
    rw [h, Nat.cast_ite, hlast]
    rfl
  · exact State.readVram_of_chrWindow hchr (by rw [h]; rfl)
  · split_ifs with hchr
    · exact State.busWrite_of_unchanged ha (by rw [h, hchr]; rfl)
    · refine State.busWrite_of_write ha (mode := none) ?_
      rw [h, MapperState.write, if_pos (Nat.pos_of_ne_zero hchr)]
  · exact State.busRead_of_prgWindow ha (by rw [h]; rfl)
  · exact State.readVram_of_chrWindow hchr (by rw [h]; rfl)
  · exact State.busWrite_of_write ha (mode := some _) (by rw [h]; rfl)

/-- Settles O53: no register, and the free map where it names a byte that exists. -/
theorem mmc5Stub : Obligations.Mmc5Stub := by
  intro s h
  refine ⟨fun a => ?_, fun hchr c => ?_, fun a v ha => ⟨?_, fun hmap => ?_⟩⟩
  · simp only [State.hook, h]
  · exact State.readVram_of_chrWindow hchr (by rw [h]; rfl)
  · exact State.busWrite_of_unchanged ha (by rw [h]; rfl)
  · have hindex : prgIndex s.cart .mmc5 a = Config.mmc5PrgMap a.toNat := Nat.mod_eq_of_lt hmap
    rw [State.busRead_cartridge s (busRegion_cartridge ha), h, mapperRead, hindex]

end Sys2Proof.Machine
end

section
/-! SUPPORT. The MMC1: its windows, and its serial port as a buffer that takes one bit a write and loads a register at the
fifth (spec/60_exceptions.md R292 to R298). -/

namespace Sys2Proof.Machine

/-! ## Windows -/

/-- A bit field of a word as a number. -/
theorem extractLsb'_toNat_eq {w : Nat} (v : BitVec w) (start len : Nat) :
    (v.extractLsb' start len).toNat = v.toNat / 2 ^ start % 2 ^ len := by
  rw [BitVec.extractLsb'_toNat, Nat.shiftRight_eq_div_pow]

/-- Settles O48, mode by mode. -/
theorem mmc1Windows : Obligations.Mmc1Windows := by
  intro s r a c h ha hprg mode b shows chrShows
  have hlast : ((s.cart.prg16 - 1 : Nat) : Int) = (s.cart.prg16 : Int) - 1 := Nat.cast_pred hprg
  have hmode : (r.control.extractLsb' 2 2).toNat = mode := extractLsb'_toNat_eq r.control 2 2
  have hbit : r.control.getLsbD 4 = decide (r.control.toNat / 16 % 2 = 1) := getLsbD_eq_decide r.control 4
  have hhalf : c.getLsbD 12 = decide (c.toNat / 0x1000 % 2 = 1) := getLsbD_eq_decide c 12
  have hc := c.isLt
  refine ⟨fun hm => ?_, fun hm => ?_, fun hm => ?_, fun hchr hm => ?_, fun hchr hm => ?_⟩
  · refine State.busRead_of_prgWindow ha ?_
    rw [h, prgWindow, hmode, if_pos (by omega)]
  · refine State.busRead_of_prgWindow ha ?_
    rw [h, prgWindow, hmode, hm, Nat.cast_ite]
    rfl
  · refine State.busRead_of_prgWindow ha ?_
    rw [h, prgWindow, hmode, hm, Nat.cast_ite, hlast]
    rfl
  · refine State.readVram_of_chrWindow hchr ?_
    rw [h, chrWindow, hbit, hm]
    rfl
  · refine State.readVram_of_chrWindow hchr ?_
    rw [h, chrWindow, hbit, hm, hhalf]
    by_cases hlow : c.toNat < 0x1000
    · simp [hlow, Nat.div_eq_of_lt hlow]
    · have hhigh : c.toNat / 0x1000 = 1 := by omega
      simp [hlow, hhigh]

/-! ## One write -/

theorem State.busWrite_mmc1 {s : State} {r q : Mmc1} {a : Addr} {v : Byte} {mode : Option Mirroring}
    (h : s.mapper = .mmc1 r) (ha : 0x8000 ≤ a.toNat) (hq : r.write s.cart.chr8 v a = (q, mode)) :
    s.busWrite a v = { s with mapper := .mmc1 q, mirror := mode.getD s.mirror } :=
  State.busWrite_of_write ha (by rw [h, MapperState.write, hq])

/-- The buffer with bit 0 of a write put in at the count (R296). -/
def Mmc1.buffered (v : Byte) (r : Mmc1) : BitVec 5 := r.shift ||| BitVec.ofNat 5 (v.toNat % 2 * 2 ^ r.count)

/-- The buffer emptied (R295, R296). -/
def Mmc1.emptied (r : Mmc1) : Mmc1 := { r with shift := 0#5, count := 0 }

/-- The mirroring mode a control load sets (R298). -/
def mmc1Mirroring (control : BitVec 5) : Mirroring :=
  if control.toNat % 4 = 0 then .singleScreenLower
  else if control.toNat % 4 = 1 then .singleScreenUpper
  else if control.toNat % 4 = 2 then .vertical else .horizontal

section
variable {r : Mmc1} {v : Byte} (chr8 : Nat) {a : Addr}

theorem Mmc1.write_reset (h : v.getLsbD 7 = true) (a : Addr) :
    r.write chr8 v a = ({ r.emptied with control := r.control ||| 0x0C#5 }, none) := by
  rw [Mmc1.write, if_pos h]
  rfl

/-- The bit a write puts into the buffer (R296). -/
theorem mmc1_bit_eq (v : Byte) (k : Nat) : (bif v.getLsbD 0 then 2 ^ k else 0) = v.toNat % 2 * 2 ^ k := by
  rw [getLsbD_eq_decide, pow_zero, Nat.div_one]
  obtain h | h := Nat.mod_two_eq_zero_or_one v.toNat <;> simp [h]

theorem Mmc1.write_shift (h : v.getLsbD 7 = false) (hcount : r.count < 4) (a : Addr) :
    r.write chr8 v a = ({ r with shift := r.buffered v, count := r.count + 1 }, none) := by
  rw [Mmc1.write, if_neg (ne_true_of_eq_false h), mmc1_bit_eq]
  exact if_neg (by omega)

/-- The fifth write loads the register that bits 14 and 13 of its address select, a CHR register only with CHR banks
(R296, R297). -/
theorem Mmc1.write_load (h : v.getLsbD 7 = false) (hcount : r.count = 4) (ha : 0x8000 ≤ a.toNat) :
    r.write chr8 v a =
      if a.toNat < 0xA000 then ({ r.emptied with control := r.buffered v }, some (mmc1Mirroring (r.buffered v)))
      else if a.toNat < 0xC000 then ({ r.emptied with chr0 := if chr8 = 0 then r.chr0 else r.buffered v }, none)
      else if a.toNat < 0xE000 then ({ r.emptied with chr1 := if chr8 = 0 then r.chr1 else r.buffered v }, none)
      else ({ r.emptied with prgreg := r.buffered v }, none) := by
  have hlt := a.isLt
  have hpage : (a.extractLsb' 13 2).toNat = a.toNat / 0x2000 % 4 := extractLsb'_toNat_eq a 13 2
  rw [Mmc1.write, if_neg (ne_true_of_eq_false h), mmc1_bit_eq]
  dsimp only
  rw [if_pos (by omega), hpage]
  by_cases h0 : a.toNat < 0xA000
  · have hp : a.toNat / 0x2000 % 4 = 0 := by omega
    rw [if_pos h0, hp]
    refine Prod.ext rfl (congrArg some ?_)
    have hmode : (r.buffered v).toNat % 4 < 4 := Nat.mod_lt _ (by decide)
    have hfield : ((r.buffered v).extractLsb' 0 2).toNat = (r.buffered v).toNat % 4 := by
      rw [extractLsb'_toNat_eq, pow_zero, Nat.div_one]
      rfl
    rw [← Mmc1.buffered, hfield, mmc1Mirroring]
    generalize (r.buffered v).toNat % 4 = n at hmode
    interval_cases n <;> rfl
  rw [if_neg h0]
  by_cases h1 : a.toNat < 0xC000
  · have hp : a.toNat / 0x2000 % 4 = 1 := by omega
    rw [if_pos h1, hp]
    cases chr8 <;> rfl
  rw [if_neg h1]
  by_cases h2 : a.toNat < 0xE000
  · have hp : a.toNat / 0x2000 % 4 = 2 := by omega
    rw [if_pos h2, hp]
    cases chr8 <;> rfl
  have hp : a.toNat / 0x2000 % 4 = 3 := by omega
  rw [if_neg h2, hp]
  rfl

end

/-! ## Five writes -/

/-- A bit put in above the bits collected so far (R296). -/
theorem Mmc1.buffered_eq {v : Byte} {r : Mmc1} {n : Nat} (hshift : r.shift = BitVec.ofNat 5 n) (hn : n < 2 ^ r.count) :
    r.buffered v = BitVec.ofNat 5 (n + 2 ^ r.count * (v.toNat % 2)) := by
  rw [Mmc1.buffered, hshift, ← BitVec.ofNat_or, Nat.or_comm, Nat.mul_comm, Nat.add_comm,
    Nat.two_pow_add_eq_or_of_lt hn]

/-- The registers while the buffer holds the low `count` bits of `n` (R292). -/
def Mmc1.holding (r : Mmc1) (count n : Nat) : Mmc1 := { r with shift := BitVec.ofNat 5 n, count := count }

/-- A write below the fifth adds its bit to the value collected. -/
theorem State.busWrite_holding {s : State} {r : Mmc1} {count n : Nat} {a : Addr} {v : Byte} (ha : 0x8000 ≤ a.toNat)
    (hv : v.getLsbD 7 = false) (hcount : count < 4) (hn : n < 2 ^ count) :
    State.busWrite a v { s with mapper := .mmc1 (r.holding count n) } =
      { s with mapper := .mmc1 (r.holding (count + 1) (n + 2 ^ count * (v.toNat % 2))) } := by
  have hwrite := (r.holding count n).write_shift s.cart.chr8 hv hcount a
  rw [Mmc1.buffered_eq rfl hn] at hwrite
  exact State.busWrite_mmc1 (s := { s with mapper := .mmc1 (r.holding count n) }) rfl ha hwrite

/-- The fifth write, in the PRG register's range, loads it with the value collected. -/
theorem State.busWrite_holding_fifth {s : State} {r : Mmc1} {n : Nat} {a : Addr} {v : Byte} (ha : 0xE000 ≤ a.toNat)
    (hv : v.getLsbD 7 = false) (hn : n < 2 ^ 4) :
    State.busWrite a v { s with mapper := .mmc1 (r.holding 4 n) } =
      { s with
        mapper := .mmc1 { r.emptied with prgreg := BitVec.ofNat 5 (n + 2 ^ 4 * (v.toNat % 2)) } } := by
  have hwrite := Mmc1.write_load (r := r.holding 4 n) s.cart.chr8 hv rfl (a := a) (by omega)
  rw [if_neg (by omega), if_neg (by omega), if_neg (by omega), Mmc1.buffered_eq rfl hn] at hwrite
  exact State.busWrite_mmc1 (s := { s with mapper := .mmc1 (r.holding 4 n) }) rfl (by omega) hwrite

/-- Settles O49: the three kinds of write, and five of them in turn. -/
theorem mmc1SerialWrites : Obligations.Mmc1SerialWrites := by
  refine ⟨fun s r a v h ha => ⟨fun hv => ?_, fun hv hcount => ?_, fun hv hcount => ?_⟩, ?_⟩
  · exact State.busWrite_mmc1 h ha (Mmc1.write_reset _ hv a)
  · exact State.busWrite_mmc1 h ha (Mmc1.write_shift _ hv hcount a)
  · have hwrite := Mmc1.write_load s.cart.chr8 hv hcount ha
    refine ⟨fun h0 => ?_, fun h0 h1 => ?_, fun h1 h2 => ?_, fun h2 => ?_⟩
    · rw [if_pos h0] at hwrite
      exact State.busWrite_mmc1 h ha hwrite
    · rw [if_neg (by omega), if_pos h1] at hwrite
      exact State.busWrite_mmc1 h ha hwrite
    · rw [if_neg (by omega), if_neg (by omega), if_pos h2] at hwrite
      exact State.busWrite_mmc1 h ha hwrite
    · rw [if_neg (by omega), if_neg (by omega), if_neg (by omega)] at hwrite
      exact State.busWrite_mmc1 h ha hwrite
  · intro s r a0 a1 a2 a3 a4 v0 v1 v2 v3 v4 h hcount hshift ha ha4 hv
    simp only [List.forall_mem_cons] at ha hv
    obtain ⟨ha0, ha1, ha2, ha3, -⟩ := ha
    obtain ⟨hv0, hv1, hv2, hv3, hv4, -⟩ := hv
    have hempty : r.holding 0 0 = r := by
      cases r
      simp_all [Mmc1.holding]
    have hemptied : r.emptied = r := by
      cases r
      simp_all [Mmc1.emptied]
    have hself : { s with mapper := .mmc1 r } = s := by rw [← h]
    have h0 := State.busWrite_holding (s := s) (r := r) (count := 0) (n := 0) ha0 hv0 (by decide) (by decide)
    rw [hempty, hself] at h0
    rw [h0, State.busWrite_holding ha1 hv1 (by decide) (by omega), State.busWrite_holding ha2 hv2 (by decide) (by omega),
      State.busWrite_holding ha3 hv3 (by decide) (by omega), State.busWrite_holding_fifth ha4 hv4 (by omega), hemptied]
    simp

end Sys2Proof.Machine
end

section
/-! SUPPORT. The MMC2: its windows, its register writes by the high digit of the address, and its latches
(spec/60_exceptions.md R299 to R303). -/

namespace Sys2Proof.Machine

/-! ## Register writes -/

/-- The write of a register, by the high digit of the address (R301, R302). -/
theorem Mmc2.write_eq {a : Addr} {page : Nat} (hpage : a.toNat / 0x1000 = page) (r : Mmc2) (v : Byte) (chr8 : Nat) :
    r.write chr8 v a =
      let v5 : BitVec 5 := BitVec.ofNat 5 (v.toNat % 32)
      if page = 0xA then ({ r with prgsel := BitVec.ofNat 4 (v.toNat % 16) }, none)
      else if page = 0xB then (if chr8 = 0 then r else { r with chrFD0 := v5 }, none)
      else if page = 0xC then (if chr8 = 0 then r else { r with chrFE0 := v5 }, none)
      else if page = 0xD then (if chr8 = 0 then r else { r with chrFD1 := v5 }, none)
      else if page = 0xE then (if chr8 = 0 then r else { r with chrFE1 := v5 }, none)
      else if page = 0xF then (r, some (if v.getLsbD 0 then .horizontal else .vertical))
      else (r, none) := by
  have hlt := a.isLt
  have hdigit : page < 16 := by omega
  have hfield : (a.extractLsb' 12 4).toNat = page := by
    rw [extractLsb'_toNat_eq]
    omega
  have hlow4 : v.extractLsb' 0 4 = BitVec.ofNat 4 (v.toNat % 16) := by
    apply BitVec.eq_of_toNat_eq
    simp [BitVec.extractLsb'_toNat]
  have hlow5 : v.extractLsb' 0 5 = BitVec.ofNat 5 (v.toNat % 32) := by
    apply BitVec.eq_of_toNat_eq
    simp [BitVec.extractLsb'_toNat]
  rw [Mmc2.write, hfield, hlow4, hlow5]
  clear hpage hfield
  interval_cases page <;> rfl

theorem State.busWrite_mmc2 {s : State} {r q : Mmc2} {a : Addr} {v : Byte} {mode : Option Mirroring}
    (h : s.mapper = .mmc2 r) (ha : 0x8000 ≤ a.toNat) (hq : r.write s.cart.chr8 v a = (q, mode)) :
    s.busWrite a v = { s with mapper := .mmc2 q, mirror := mode.getD s.mirror } :=
  State.busWrite_of_write ha (by rw [h, MapperState.write, hq])

/-- A hook at one of the four masked addresses sets one latch (R303). -/
theorem Mmc2.hook_eq (a : Addr) (r : Mmc2) :
    r.hook a =
      { r with
        latch0 := if a &&& 0x1FF0#16 = 0x0FD0#16 then .fd else if a &&& 0x1FF0#16 = 0x0FE0#16 then .fe else r.latch0
        latch1 :=
          if a &&& 0x1FF0#16 = 0x1FD0#16 then .fd else if a &&& 0x1FF0#16 = 0x1FE0#16 then .fe else r.latch1 } := by
  have hz {n : Nat} (hn : n < 2 ^ 16) : a &&& 0x1FF0#16 = BitVec.ofNat 16 n ↔ (a &&& 0x1FF0#16).toNat = n := by
    rw [← BitVec.toNat_inj, BitVec.toNat_ofNat, Nat.mod_eq_of_lt hn]
  simp only [hz (n := 0x0FD0) (by decide), hz (n := 0x0FE0) (by decide), hz (n := 0x1FD0) (by decide),
    hz (n := 0x1FE0) (by decide)]
  unfold Mmc2.hook
  generalize (a &&& 0x1FF0#16).toNat = z
  split
  case h_5 h0 h1 h2 h3 => rw [if_neg h0, if_neg h1, if_neg h2, if_neg h3]
  all_goals rfl

/-! ## Windows, writes and hook -/

/-- Settles O50: the windows by the part of the range, the writes by `Mmc2.write_eq`, the hook by `Mmc2.hook_eq`. -/
theorem mmc2Behaviour : Obligations.Mmc2Behaviour := by
  refine ⟨fun s r a c h ha hprg => ?_, fun s r a v h ha => ?_, fun s r a h => ?_⟩
  · intro n8 shows
    have hc := c.isLt
    have hhalf : c.getLsbD 12 = decide (c.toNat / 0x1000 % 2 = 1) := getLsbD_eq_decide c 12
    refine ⟨fun h0 => ?_, fun h0 h1 hprg2 => ?_, fun h1 h2 => ?_, fun h2 => ?_, fun hchr => ?_⟩
    · refine State.busRead_of_prgWindow ha ?_
      rw [h, prgWindow, if_pos h0]
    · refine State.busRead_of_prgWindow ha ?_
      rw [h, prgWindow, if_neg (by omega), if_pos h1, natCast_lastBank (by omega)]
      rfl
    · refine State.busRead_of_prgWindow ha ?_
      rw [h, prgWindow, if_neg (by omega), if_neg (by omega), if_pos h2, natCast_lastBank (by omega)]
      rfl
    · refine State.busRead_of_prgWindow ha ?_
      rw [h, prgWindow, if_neg (by omega), if_neg (by omega), if_neg (by omega), natCast_lastBank (by omega)]
      rfl
    · refine State.readVram_of_chrWindow hchr ?_
      rw [h, chrWindow, hhalf]
      by_cases hlow : c.toNat < 0x1000
      · have hpage : c.toNat / 0x1000 = 0 := Nat.div_eq_of_lt hlow
        rw [hpage, if_pos hlow]
        cases r.latch0 <;> rfl
      · have hpage : c.toNat / 0x1000 = 1 := by omega
        rw [hpage, if_neg hlow]
        cases r.latch1 <;> rfl
  · intro v5 chrWritten page
    have hself : { s with mapper := .mmc2 r } = s := by rw [← h]
    have hchr {q : Mmc2} (hq : r.write s.cart.chr8 v a = (if s.cart.chr8 = 0 then r else q, none)) :
        s.busWrite a v = chrWritten q := by
      rw [State.busWrite_mmc2 h ha hq]
      dsimp only [chrWritten]
      split_ifs
      · exact hself
      · rfl
    refine ⟨fun hp => ?_, fun hp => ?_, fun hp => ?_, fun hp => ?_, fun hp => ?_, fun hp => ?_, fun hp => ?_⟩
    · refine State.busWrite_of_unchanged ha ?_
      obtain hp | hp := hp <;> rw [h, MapperState.write, Mmc2.write_eq hp] <;> rfl
    · exact State.busWrite_mmc2 h ha (Mmc2.write_eq hp r v _)
    · exact hchr (Mmc2.write_eq hp r v _)
    · exact hchr (Mmc2.write_eq hp r v _)
    · exact hchr (Mmc2.write_eq hp r v _)
    · exact hchr (Mmc2.write_eq hp r v _)
    · refine State.busWrite_of_mode (mode := some _) ha ?_
      rw [h, MapperState.write, Mmc2.write_eq hp]
      rfl
  · intro z
    rw [State.hook, h]
    dsimp only
    rw [Mmc2.hook_eq]

end Sys2Proof.Machine
end

section
/-! SUPPORT. The MMC3: its windows, its register writes by page and parity of the address, and its scanline counter
(spec/60_exceptions.md R304 to R309). -/

namespace Sys2Proof.Machine

/-! ## Windows -/

/-- The slot of a pattern address, the halves swapped when the inversion bit is set (R306). -/
theorem mmc3Slot_toNat (c : PatternAddr) (inverted : Bool) :
    (c.extractLsb' 10 3 ^^^ (if inverted then 4#3 else 0#3)).toNat =
      (c.toNat / 1024 + (if inverted then 4 else 0)) % 8 := by
  have hslot : (c.extractLsb' 10 3).toNat = c.toNat / 1024 % 8 := extractLsb'_toNat_eq c 10 3
  have hswap : ∀ x : BitVec 3, (x ^^^ 4#3).toNat = (x.toNat + 4) % 8 := by decide
  cases inverted
  · simpa using hslot
  · rw [if_pos rfl, if_pos rfl, hswap, hslot, Nat.mod_add_mod]

/-! ## Register writes -/

/-- The address bits that select a register: the 8 KiB page and the parity (R307). -/
theorem mmc3Register_toNat (a : Addr) : (a &&& 0xE001#16).toNat = a.toNat / 0x2000 * 0x2000 + a.toNat % 2 := by
  have hmasks : a &&& 0xE001#16 = (a &&& 0xE000#16) ||| (a &&& 1#16) := by
    rw [← BitVec.and_or_distrib_left]
    rfl
  have hlow : (a &&& 1#16).toNat = a.toNat % 2 := by
    rw [BitVec.toNat_and]
    exact Nat.and_one_is_mod _
  have hbelow : a.toNat % 2 < 2 ^ 13 := by omega
  rw [hmasks, BitVec.toNat_or, toNat_and_highMask (k := 13) a (by decide), hlow, Nat.mul_comm,
    ← Nat.two_pow_add_eq_or_of_lt hbelow, Nat.mul_comm]
  rfl

theorem State.busWrite_mmc3 {s : State} {r q : Mmc3} {a : Addr} {v : Byte} {mode : Option Mirroring}
    (h : s.mapper = .mmc3 r) (ha : 0x8000 ≤ a.toNat) (hq : r.write s.cart.chr8 v a = (q, mode)) :
    s.busWrite a v = { s with mapper := .mmc3 q, mirror := mode.getD s.mirror } :=
  State.busWrite_of_write ha (by rw [h, MapperState.write, hq])

/-- The register number of a bank select (R307). -/
theorem mmc3Target_toNat (bsel : Byte) : (bsel.extractLsb' 0 3).toNat = bsel.toNat % 8 := by
  rw [extractLsb'_toNat_eq, pow_zero, Nat.div_one]
  rfl

/-- A write to an odd address of 0x8000 to 0x9FFF sets `R[k]`, a CHR register only with CHR banks (R307). -/
theorem Mmc3.write_target {r : Mmc3} {a : Addr} (ha : (a &&& 0xE001#16).toNat = 0x8001) (v : Byte) (chr8 : Nat) :
    r.write chr8 v a =
      (if 6 ≤ r.bsel.toNat % 8 ∨ chr8 ≠ 0 then r.setTarget (r.bsel.extractLsb' 0 3) v else r, none) := by
  rw [Mmc3.write, ha]
  simp only [mmc3Target_toNat, ge_iff_le, gt_iff_lt, Nat.pos_iff_ne_zero]

/-- Settles O51: the windows by the part of the range, the writes by the register the address selects. -/
theorem mmc3WindowsAndRegisters : Obligations.Mmc3WindowsAndRegisters := by
  refine ⟨fun s r a c h ha hprg => ?_, fun s r a v h ha => ?_⟩
  · intro n8 swap shows chrShows t
    refine ⟨fun h0 => ?_, fun h0 h1 => ?_, fun h1 h2 => ?_, fun h2 => ?_, fun hchr => ?_⟩
    · refine State.busRead_of_prgWindow ha ?_
      rw [h, prgWindow, if_pos h0, Nat.cast_ite, natCast_lastBank (by omega)]
      rfl
    · refine State.busRead_of_prgWindow ha ?_
      rw [h, prgWindow, if_neg (by omega), if_pos h1]
    · refine State.busRead_of_prgWindow ha ?_
      rw [h, prgWindow, if_neg (by omega), if_neg (by omega), if_pos h2, Nat.cast_ite, natCast_lastBank (by omega)]
      rfl
    · refine State.busRead_of_prgWindow ha ?_
      rw [h, prgWindow, if_neg (by omega), if_neg (by omega), if_neg (by omega), natCast_lastBank (by omega)]
      rfl
    · have hslot := mmc3Slot_toNat c (r.bsel.getLsbD 7)
      refine ⟨fun ht => ?_, fun ht => ?_, fun ht => ?_, fun ht => ?_, fun ht => ?_, fun ht => ?_, fun ht => ?_,
        fun ht => ?_⟩
      all_goals
        refine State.readVram_of_chrWindow hchr ?_
        rw [h, chrWindow, Mmc3.chrBank, hslot.trans ht]
        rfl
  · intro page odd k written
    have hregister := mmc3Register_toNat a
    have hselect {n : Nat} (hn : page * 0x2000 + a.toNat % 2 = n) : (a &&& 0xE001#16).toNat = n := hregister.trans hn
    refine ⟨fun hp ho => ?_, fun hp ho => ?_, fun hp ho => ?_, fun hp ho => ?_, fun hp ho => ?_, fun hp ho => ?_,
      fun hp ho => ?_, fun hp ho => ?_⟩
    · refine State.busWrite_mmc3 h ha (mode := none) ?_
      rw [Mmc3.write, hselect (n := 0x8000) (by omega)]
      rfl
    · have htarget := Mmc3.write_target (r := r) (hselect (n := 0x8001) (by omega)) v s.cart.chr8
      by_cases hset : 6 ≤ k ∨ s.cart.chr8 ≠ 0
      · rw [if_pos hset, Mmc3.setTarget_eq, mmc3Target_toNat] at htarget
        rw [if_pos hset]
        exact State.busWrite_mmc3 h ha htarget
      · rw [if_neg hset] at htarget ⊢
        exact State.busWrite_of_unchanged ha (by rw [h, MapperState.write, htarget])
    · refine State.busWrite_of_mode (mode := some _) ha ?_
      rw [h, MapperState.write, Mmc3.write, hselect (n := 0xA000) (by omega)]
      rfl
    · refine State.busWrite_of_unchanged ha ?_
      rw [h, MapperState.write, Mmc3.write, hselect (n := 0xA001) (by omega)]
      rfl
    · refine State.busWrite_mmc3 h ha (mode := none) ?_
      rw [Mmc3.write, hselect (n := 0xC000) (by omega)]
      rfl
    · refine State.busWrite_mmc3 h ha (mode := none) ?_
      rw [Mmc3.write, hselect (n := 0xC001) (by omega)]
      rfl
    · refine State.busWrite_mmc3 h ha (mode := none) ?_
      rw [Mmc3.write, hselect (n := 0xE000) (by omega)]
      rfl
    · refine State.busWrite_mmc3 h ha (mode := none) ?_
      rw [Mmc3.write, hselect (n := 0xE001) (by omega)]
      rfl

/-! ## The scanline counter -/

/-- The counter after one clock: reloaded when a reload is requested or it is 0, else one less (R309). -/
def Mmc3.nextCounter (r : Mmc3) : Byte :=
  if r.irqReload = true ∨ r.irqCounter = 0x00#8 then r.irqLatch else BitVec.ofNat 8 (r.irqCounter.toNat - 1)

theorem Mmc3.hook_eq (r : Mmc3) : r.hook = { r with irqCounter := r.nextCounter, irqReload := false } := by
  have hcond : (r.irqReload || r.irqCounter == 0#8) = true ↔ r.irqReload = true ∨ r.irqCounter = 0x00#8 := by simp
  unfold Mmc3.hook Mmc3.nextCounter
  by_cases h : r.irqReload = true ∨ r.irqCounter = 0x00#8
  · rw [if_pos (hcond.2 h), if_pos h]
  · have hpos : r.irqCounter.toNat ≠ 0 := fun h0 => h (.inr (BitVec.eq_of_toNat_eq h0))
    have hless : r.irqCounter - 1#8 = BitVec.ofNat 8 (r.irqCounter.toNat - 1) := by
      apply BitVec.eq_of_toNat_eq
      simp only [BitVec.toNat_sub, BitVec.toNat_ofNat]
      omega
    have hreload : r.irqReload = false := by simpa using fun h' => h (.inl h')
    rw [if_neg (mt hcond.1 h), if_neg h, hless, hreload]

/-- A hook clocks the counter, and requests the IRQ when that leaves 0 with the interrupt enabled (R309). -/
theorem State.hook_mmc3 {s : State} {r : Mmc3} (h : s.mapper = .mmc3 r) (a : Addr) :
    s.hook a =
      { s with
        mapper := .mmc3 { r with irqCounter := r.nextCounter, irqReload := false }
        pend := if r.nextCounter = 0x00#8 ∧ r.irqEnable = true then { s.pend with irq := true } else s.pend } := by
  simp only [State.hook, h, Mmc3.hook_eq, Mmc3.hookRequests]
  by_cases hrequest : r.nextCounter = 0x00#8 ∧ r.irqEnable = true
  · simp [hrequest]
  · have hnone : (r.nextCounter == 0#8 && r.irqEnable) = false := by simpa using hrequest
    rw [if_neg hrequest, hnone, Bool.or_false]

/-- The machine `k + 1` edges after a reload was requested with the latch at `L`: the counter is `L - k`, and the IRQ has
been requested if that is 0. -/
def State.afterEdges (r : Mmc3) (k : Nat) (s : State) : State :=
  { s with
    mapper := .mmc3 { r with irqCounter := BitVec.ofNat 8 (r.irqLatch.toNat - k), irqReload := false }
    pend := if k = r.irqLatch.toNat then { s.pend with irq := true } else s.pend }

theorem State.hook_iterate {s : State} {r : Mmc3} (h : s.mapper = .mmc3 r) (hreload : r.irqReload = true)
    (henable : r.irqEnable = true) (a : Addr) {k : Nat} (hk : k ≤ r.irqLatch.toNat) :
    (State.hook a)^[k + 1] s = s.afterEdges r k := by
  induction k with
  | zero =>
    have hnext : r.nextCounter = r.irqLatch := if_pos (.inl hreload)
    have hzero : r.irqLatch = 0x00#8 ↔ 0 = r.irqLatch.toNat := by
      rw [← BitVec.toNat_inj, eq_comm]
      rfl
    simp [State.hook_mmc3 h, hnext, henable, State.afterEdges, hzero]
  | succ k ih =>
    have hlt := r.irqLatch.isLt
    have hcounter : (BitVec.ofNat 8 (r.irqLatch.toNat - k)).toNat = r.irqLatch.toNat - k :=
      Nat.mod_eq_of_lt (by omega)
    have hne : BitVec.ofNat 8 (r.irqLatch.toNat - k) ≠ 0x00#8 := by
      rw [← BitVec.toNat_inj.ne, hcounter]
      simp
      omega
    have hzero : BitVec.ofNat 8 (r.irqLatch.toNat - (k + 1)) = 0x00#8 ↔ k + 1 = r.irqLatch.toNat := by
      rw [← BitVec.toNat_inj, BitVec.toNat_ofNat]
      simp
      omega
    have hnext : Mmc3.nextCounter
        { r with irqCounter := BitVec.ofNat 8 (r.irqLatch.toNat - k), irqReload := false } =
          BitVec.ofNat 8 (r.irqLatch.toNat - (k + 1)) := by
      rw [Mmc3.nextCounter, if_neg (by simp [hne]), hcounter]
      rfl
    have hbefore : (s.afterEdges r k).pend = s.pend := if_neg (by omega)
    rw [Function.iterate_succ_apply', ih (by omega), State.hook_mmc3 (s := s.afterEdges r k) rfl, hnext, hbefore]
    simp only [hzero, henable, and_true, State.afterEdges]

/-- Settles O52: one hook by `State.hook_mmc3`, the edges after a reload by `State.hook_iterate`. -/
theorem mmc3ScanlineCounter : Obligations.Mmc3ScanlineCounter := by
  refine ⟨fun s r a h => State.hook_mmc3 h a, fun s r a h hreload henable hirq => ⟨fun k hk => ?_, fun hpos => ?_⟩⟩
  · rw [State.hook_iterate h hreload henable a hk]
    refine ⟨_, rfl, Nat.mod_eq_of_lt (by omega), ?_⟩
    dsimp only [State.afterEdges]
    split_ifs with hlast <;> simp [hlast, hirq]
  · rw [State.hook_iterate h hreload henable a le_rfl]
    have hnext : Mmc3.nextCounter
        { r with irqCounter := BitVec.ofNat 8 (r.irqLatch.toNat - r.irqLatch.toNat), irqReload := false } =
          r.irqLatch := if_pos (.inr (by rw [Nat.sub_self]))
    have hne : r.irqLatch ≠ 0x00#8 := fun h0 => by simp [h0] at hpos
    intro u t
    have ht : t = _ := State.hook_mmc3 (s := { u with pend := { u.pend with irq := false } }) rfl a
    rw [ht, hnext]
    exact ⟨by simp [hne], _, rfl, rfl⟩

end Sys2Proof.Machine
end

section
/-! SUPPORT. The interrupt poll and the entries (spec/60_exceptions.md R254, R256); bytes pushed are the bytes pulled, so a
return undoes its entry or call (R260, spec/43_control_flow.md R202, R204, spec/44_stack_flags_system.md R233, R234). -/

namespace Sys2Proof.Machine

/-! ## The poll and the entries -/

/-- What the poll chooses is entered on the state the poll leaves (R100, R254). -/
theorem cpuStep_of_poll {s u : State} {k : Interrupt} (h : s.pollInterrupts = (some k, u)) :
    cpuStep s = .next (u.enterInterrupt k) := by
  simp only [cpuStep, h]

/-- Settles O54, by the order of the poll's tests. -/
theorem interruptPriority : Obligations.InterruptPriority := by
  intro s
  refine ⟨fun hreset => cpuStep_of_reset hreset, fun hreset hnmi => cpuStep_of_poll ?_,
    fun hreset hnmi hirq hi => cpuStep_of_poll ?_, fun hreset hnmi hirq op i u hfetch => ?_⟩
  · simp [State.pollInterrupts, hreset, hnmi]
  · simp [State.pollInterrupts, hreset, hnmi, hirq, hi]
  · exact cpuStep_of_fetch (State.pollInterrupts_none hreset hnmi hirq) hfetch

/-- Settles O55: both entries are the shared trap entry, each with its own vector. -/
theorem interruptEntry : Obligations.InterruptEntry := by
  intro s
  constructor
  all_goals
    rw [State.enterInterrupt, State.enterTrap_eq _ _ _ (by decide) (by decide), State.addCycles, afterPushes_sched]
    rfl

/-! ## Bytes pushed and pulled -/

/-- The `k`-th of at most 256 bytes pushed is `k` below the stack pointer it was pushed from (R24). -/
theorem read_pushed {vs : List Byte} {s : State} (hwf : s.mem.wf = true) (hlen : vs.length ≤ 256) {k : Nat}
    (hk : k < vs.length) :
    (afterPushes vs s).mem.read (0x0100 + (s.cpu.sp - BitVec.ofNat 8 k).toNat) = vs[k] := by
  induction vs generalizing s k with
  | nil => cases hk
  | cons v vs ih =>
    rw [List.length_cons] at hlen hk
    rw [afterPushes]
    cases k with
    | zero =>
      rw [read_afterPushes]
      · simpa using Memory.read_write_same hwf _ v
      · intro j hj
        simp only [BitVec.toNat_sub, BitVec.toNat_ofNat]
        omega
    | succ k =>
      have hshift : s.cpu.sp - BitVec.ofNat 8 (k + 1) = s.cpu.sp - 1#8 - BitVec.ofNat 8 k := by
        rw [BitVec.ofNat_add]
        bv_omega
      rw [hshift]
      exact ih (s := { s with mem := _, cpu := { s.cpu with sp := s.cpu.sp - 1#8 } }) (Memory.wf_write hwf _ v) (by omega)
        (by omega)

/-- Pulls answer the bytes pushed, the last one first. -/
theorem pulledByte_pushed {vs : List Byte} {s t : State} (hwf : s.mem.wf = true) (hmem : t.mem = (afterPushes vs s).mem)
    (hsp : t.cpu.sp = s.cpu.sp - BitVec.ofNat 8 vs.length) (hlen : vs.length ≤ 256) {k : Nat} (hk : k < vs.length) :
    pulledByte (vs.length - k) t = vs[k] := by
  have haddr : t.cpu.sp + BitVec.ofNat 8 (vs.length - k) = s.cpu.sp - BitVec.ofNat 8 k := by
    apply BitVec.eq_of_toNat_eq
    simp only [hsp, BitVec.toNat_add, BitVec.toNat_sub, BitVec.toNat_ofNat]
    omega
  rw [pulledByte_eq, haddr, hmem]
  exact read_pushed hwf hlen hk

/-! ## The copies of the status byte -/

/-- Bits 4 and 5 of a pulled byte are discarded, so any byte with the other six of the status byte gives back every flag,
whatever I has become (R28, R224). -/
theorem Flags.setStatus_of_pack {v : Byte} {f : Flags} (h : ∀ k ∈ [0, 1, 2, 3, 6, 7], v.getLsbD k = f.pack.getLsbD k)
    (i : Bool) : Flags.setStatus v { f with i := i } = f := by
  simp only [List.forall_mem_cons] at h
  obtain ⟨h0, h1, h2, h3, h6, h7, -⟩ := h
  obtain ⟨hc, hz, hi, hd, -, -, hv, hn⟩ := f.pack_getLsbD
  simp only [Flags.setStatus, h0, h1, h2, h3, h6, h7, hc, hz, hi, hd, hv, hn]

theorem Flags.setStatus_pushedByInterrupt (f : Flags) (i : Bool) :
    Flags.setStatus f.pushedByInterrupt { f with i := i } = f := by
  refine Flags.setStatus_of_pack ?_ i
  simp [Flags.pushedByInterrupt]

theorem Flags.setStatus_pushedByBreak (f : Flags) (i : Bool) :
    Flags.setStatus f.pushedByBreak { f with i := i } = f := by
  refine Flags.setStatus_of_pack ?_ i
  simp [Flags.pushedByBreak]

/-! ## Returns -/

/-- RTI gives back the registers a trap entry found, at the address it pushed, if the copy of the status it pushed holds the
flags (R233, R234, R256). -/
theorem exec_rti_of_enterTrap {s : State} (hwf : s.mem.wf = true) (ret : Addr) {status : Byte} {vector : Addr}
    (hstatus : Flags.setStatus status { s.cpu.f with i := true } = s.cpu.f) (h : 0x8000 ≤ vector.toNat)
    (h' : 0x8000 ≤ (vector + 1#16).toNat) (n : Nat) :
    ∃ u, exec .rti ((s.enterTrap ret status vector).addCycles n) = .next u ∧ u.cpu = { s.cpu with pc := ret } := by
  refine ⟨_, exec_rti _, ?_⟩
  have hmem : ((s.enterTrap ret status vector).addCycles n).mem =
      (afterPushes [highByte ret, lowByte ret, status] s).mem := by
    rw [State.enterTrap_eq _ _ _ h h']
    rfl
  have hcpu : ((s.enterTrap ret status vector).addCycles n).cpu =
      { s.cpu with sp := s.cpu.sp - 3#8, pc := vectorAt vector s, f := { s.cpu.f with i := true } } := by
    rw [State.enterTrap_eq _ _ _ h h', State.addCycles_cpu, afterPushes_cpu]
    rfl
  generalize (s.enterTrap ret status vector).addCycles n = t at hmem hcpu
  have hsp : t.cpu.sp = s.cpu.sp - 3#8 := congrArg Cpu.sp hcpu
  have hpulled {k : Nat} (hk : k < 3) := pulledByte_pushed hwf hmem hsp (by simp) hk
  have hstatusByte : pulledByte 1 t = status := hpulled (k := 2) (by decide)
  have hlow : pulledByte 2 t = lowByte ret := hpulled (k := 1) (by decide)
  have hhigh : pulledByte 3 t = highByte ret := hpulled (k := 0) (by decide)
  have hback : s.cpu.sp - 3#8 + 3#8 = s.cpu.sp := by bv_omega
  rw [State.addCycles_cpu, State.returnFromTrap_eq, hstatusByte, hlow, hhigh, joinBytes_high_low, hcpu]
  simp [hstatus, hback]

/-- RTS gives back the registers a JSR found, at the instruction after it (R202, R204). -/
theorem exec_rts_of_jsr {s t : State} (hwf : s.mem.wf = true) {w : Addr} (h : exec (.jsr w) s = .next t) :
    t.cpu.pc = w ∧ ∃ u, exec .rts t = .next u ∧ u.cpu = s.cpu := by
  have hmem : t.mem = (afterPushes [highByte (s.cpu.pc - 1#16), lowByte (s.cpu.pc - 1#16)] s).mem := by
    rw [exec_jsr, State.push16_eq] at h
    cases h
    rfl
  have hcpu : t.cpu = { s.cpu with sp := s.cpu.sp - 2#8, pc := w } := by
    rw [exec_jsr, State.push16_eq] at h
    cases h
    simp
  have hsp : t.cpu.sp = s.cpu.sp - 2#8 := congrArg Cpu.sp hcpu
  have hpulled {k : Nat} (hk : k < 2) := pulledByte_pushed hwf hmem hsp (by simp) hk
  have hlow : pulledByte 1 t = lowByte (s.cpu.pc - 1#16) := hpulled (k := 1) (by decide)
  have hhigh : pulledByte 2 t = highByte (s.cpu.pc - 1#16) := hpulled (k := 0) (by decide)
  have hback : s.cpu.sp - 2#8 + 2#8 = s.cpu.sp := by bv_omega
  have hpc : s.cpu.pc - 1#16 + 1#16 = s.cpu.pc := by bv_omega
  refine ⟨congrArg Cpu.pc hcpu, _, exec_rts t, ?_⟩
  rw [State.pull16_eq, hlow, hhigh, joinBytes_high_low]
  simp [hcpu, hback, hpc]

/-- Settles O56: what was pushed is pulled, and both copies of the status hold the six flags. -/
theorem returnsUndoEntriesAndCalls : Obligations.ReturnsUndoEntriesAndCalls := by
  intro s hwf
  refine ⟨fun k hk => ?_, ?_, fun w => ?_⟩
  · cases k with
    | reset => exact absurd rfl hk
    | nmi => exact exec_rti_of_enterTrap hwf _ (s.cpu.f.setStatus_pushedByInterrupt true) (by decide) (by decide) 7
    | irq => exact exec_rti_of_enterTrap hwf _ (s.cpu.f.setStatus_pushedByInterrupt true) (by decide) (by decide) 7
  · obtain ⟨u, hu, hcpu⟩ := exec_rti_of_enterTrap hwf (s.cpu.pc + 1#16) (s.cpu.f.setStatus_pushedByBreak true)
      (vector := 0xFFFE#16) (by decide) (by decide) 7
    exact ⟨_, u, exec_brk s, hu, hcpu⟩
  · obtain ⟨t, ht⟩ := exec_completes (.jsr w) s
    obtain ⟨hpc, u, hu, hcpu⟩ := exec_rts_of_jsr hwf ht
    exact ⟨t, u, ht, hu, hpc, hcpu⟩

end Sys2Proof.Machine
end

section
/-! SUPPORT. What settling leaves of the scheduler and of the picture unit's step count, and what reaches it from the end
of a processor step (spec/60_exceptions.md R275, R276). -/

namespace Sys2Proof.Machine

/-! ## The end of the run -/

/-- The processor raises no fault (R250). -/
theorem cpuStep_ne_fault (s : State) (r : Fault) : cpuStep s ≠ .fault r := by
  unfold cpuStep
  split
  · exact nofun
  · split
    next i u _ =>
      obtain ⟨t, ht⟩ := exec_completes i u
      rw [ht]
      exact nofun
    · exact nofun

/-- Settles O59: neither settling nor a processor step answers a fault. -/
theorem stopEndsTheRunAtTheTop : Obligations.StopEndsTheRunAtTheTop := by
  intro s
  rw [← Bool.and_eq_true]
  unfold step schedulerStep
  dsimp only
  split_ifs with hstop
  · exact ⟨fun _ => hstop, fun _ => rfl⟩
  · exact ⟨nofun, fun h => absurd h hstop⟩
  · refine ⟨fun h => ?_, fun h => absurd h hstop⟩
    split at h
    next => cases h
    next r hr => exact absurd hr (cpuStep_ne_fault _ r)
    next => cases h

/-! ## Settling -/

/-- `PPU.Step()` calls made so far. -/
def State.ppuStepCount (s : State) : Nat := s.dev.history.ppuSteps

@[simp] theorem State.nextIteration_ppuStepCount (s : State) : s.nextIteration.ppuStepCount = s.ppuStepCount + 341 :=
  congrArg (· + 341) (pictureFrame_ppuSteps 341 s).ppuSteps

/-- With `stop` clear, each of the iterations that are due takes 114 cycles and makes 341 picture steps. -/
theorem State.runIterations_ratio {n : Nat} {s : State} (hstop : s.sched.stop = false) (hn : 114 * n ≤ s.sched.acc) :
    (s.runIterations n).sched.acc = s.sched.acc - 114 * n ∧
      (s.runIterations n).ppuStepCount = s.ppuStepCount + 341 * n := by
  induction n generalizing s with
  | zero => exact ⟨rfl, rfl⟩
  | succ n ih =>
    obtain ⟨hacc, hsteps⟩ := ih (s := s.nextIteration) (by simpa using hstop) (by simp; omega)
    rw [State.runIterations_succ, if_neg (by omega), if_neg (by simp [hstop]), hacc, hsteps]
    simp
    omega

theorem State.settle_ratio {s : State} (hstop : s.sched.stop = false) :
    s.settle.sched.acc = s.sched.acc % 114 ∧
      s.settle.ppuStepCount = s.ppuStepCount + 341 * (s.sched.acc / 114) := by
  obtain ⟨hacc, hsteps⟩ := State.runIterations_ratio hstop (Nat.mul_div_le s.sched.acc 114)
  exact ⟨hacc.trans (by omega), hsteps⟩

theorem State.settle_of_lt {s : State} (h : s.sched.acc < 114) : s.settle = s := by
  rw [State.settle, Nat.div_eq_of_lt h]
  rfl

/-- From 114 cycles on, settling begins with one iteration, and `stop` is read at the top it ends at. -/
theorem State.settle_of_le {s : State} (h : 114 ≤ s.sched.acc) :
    s.settle = if s.sched.stop then s.nextIteration else s.nextIteration.settle := by
  obtain ⟨n, hn⟩ : ∃ n, s.sched.acc / 114 = n + 1 := ⟨s.sched.acc / 114 - 1, by omega⟩
  have hnext : s.nextIteration.sched.acc / 114 = n := by
    rw [State.nextIteration_sched]
    dsimp only
    omega
  rw [State.settle, hn, State.runIterations_succ, if_neg (Nat.not_lt.2 h), State.settle, hnext,
    State.nextIteration_sched]

theorem State.runIterations_atTop {n : Nat} {s : State} (h : s.sched.atTop = true) :
    (s.runIterations n).sched.atTop = true := by
  induction n generalizing s with
  | zero => exact h
  | succ n ih =>
    rw [State.runIterations_succ]
    split_ifs
    · exact h
    · simp
    · exact ih (by simp)

/-- The scheduler stands at a top if it stood at one or an iteration has ended (log 11). -/
theorem State.settle_atTop (s : State) : s.settle.sched.atTop = (s.sched.atTop || decide (114 ≤ s.sched.acc)) := by
  by_cases h : 114 ≤ s.sched.acc
  · rw [State.settle_of_le h]
    split_ifs
    · simp [h]
    · simp [h, State.settle, State.runIterations_atTop]
  · simp [h, State.settle_of_lt (Nat.not_le.1 h)]

/-- With `stop` set one iteration ends the run (R276). -/
theorem State.settle_stopped {s : State} (hstop : s.sched.stop = true) (h : 114 ≤ s.sched.acc) :
    s.settle.sched.acc = s.sched.acc - 114 ∧ s.settle.sched.atTop = true ∧
      s.settle.ppuStepCount = s.ppuStepCount + 341 := by
  simp [State.settle_of_le h, hstop]

/-! ## From the processor step to settling -/

/-- The scheduler and the picture unit's step count. -/
def State.clock (s : State) : Sched × Nat := (s.sched, s.ppuStepCount)

theorem PictureFrame.clock_eq {s t : State} (h : PictureFrame s t) : t.clock = s.clock :=
  Prod.ext h.sched h.ppuSteps

theorem State.runDots_clock (ds : List Dot) (s : State) : (s.runDots ds).clock = s.clock := by
  induction ds generalizing s with
  | nil => rfl
  | cons d ds ih => exact (ih _).trans (pictureFrame_runDot d s).clock_eq

theorem State.reactions_clock (s : State) : s.reactions.clock = s.clock := by
  unfold State.reactions
  split
  · split
    · rfl
    · exact State.runDots_clock _ _
  · rfl

theorem State.oamReadList_clock (page : Byte) (is : List Byte) (s : State) :
    (State.oamReadList page is s).clock = s.clock := by
  induction is generalizing s with
  | nil => rfl
  | cons i is ih => exact (ih _).trans (Prod.ext (s.busReadEffect_sched _) (s.busReadEffect_ppuSteps _))

theorem State.oamDma_clock (s : State) : s.oamDma.clock = s.clock := by
  unfold State.oamDma
  split
  · rfl
  · split
    · rfl
    · exact State.oamReadList_clock _ _ _

/-- The end of a step settles a state with the clock the processor step left: the agents' moves before it cost nothing and
make no picture step (R278, R60). -/
theorem State.endOfStep_eq_settle (t : State) : ∃ v : State, t.endOfStep = v.settle ∧ v.clock = t.clock :=
  ⟨_, rfl, (State.oamDma_clock _).trans t.reactions_clock⟩

/-- Settles O60: `State.settle_ratio` and `State.settle_stopped`, for a step on the state its end settles. -/
theorem schedulerRatio : Obligations.SchedulerRatio := by
  refine ⟨fun s => State.settle_ratio, fun s => State.settle_stopped, fun s htop hacc => ?_,
    fun s t htop hacc ht => ?_⟩
  · have hrun : (s.atBoundary.sched.atTop && s.atBoundary.sched.stop) = false := by
      obtain h | h := htop <;> simp [h]
    simp [step, schedulerStep, hrun, hacc]
  · obtain ⟨v, hend, hclock⟩ := t.endOfStep_eq_settle
    have hsched : v.sched = t.sched := congrArg Prod.fst hclock
    have hcount : v.ppuStepCount = t.ppuStepCount := congrArg Prod.snd hclock
    refine ⟨v.settle, hend ▸ step_of_cpuStep htop hacc ht, fun h => ?_, fun hstop h => ?_, ?_⟩
    · rw [← hsched] at h ⊢
      change _ ∧ v.settle.ppuStepCount = t.ppuStepCount + _
      rw [← hcount]
      obtain hstop | hlt := h
      · exact State.settle_ratio hstop
      · rw [State.settle_of_lt hlt, Nat.mod_eq_of_lt hlt, Nat.div_eq_of_lt hlt]
        exact ⟨rfl, rfl⟩
    · rw [← hsched] at hstop h ⊢
      change _ ∧ v.settle.ppuStepCount = t.ppuStepCount + _
      rw [← hcount]
      obtain ⟨hacc', -, hsteps⟩ := State.settle_stopped hstop h
      exact ⟨hacc', hsteps⟩
    · rw [← hsched]
      exact v.settle_atTop

end Sys2Proof.Machine
end

section
/-! SUPPORT. Every step of the machine is accounted for (spec/70_reset_and_hazards.md R377; spec/60_exceptions.md R250,
R276; spec/30_encoding.md R120): what a fetch, a processor step and a step of the machine can answer. -/

namespace Sys2Proof.Machine

/-- A byte with a cell decodes with as many operand bytes as the cell's format names (R122). -/
theorem decode_of_operandBytes {op : Byte} {form : Form} {bs : List Byte} (h : opForm op = some form)
    (hlen : bs.length = form.operandBytes) : ∃ i, decode (op :: bs) = .ok (i, []) := by
  cases form with
  | alone i =>
    obtain rfl := List.length_eq_zero_iff.1 hlen
    exact ⟨i, by simp only [decode, h]⟩
  | oneByte mk =>
    obtain ⟨b, rfl⟩ := List.length_eq_one_iff.1 hlen
    exact ⟨mk b, by simp only [decode, h]⟩
  | twoBytes mk =>
    obtain ⟨lo, hi, rfl⟩ := List.length_eq_two.1 hlen
    exact ⟨mk (joinBytes hi lo), by simp only [decode, h]⟩

theorem State.fetchBytes_length (n : Nat) (s : State) : (State.fetchBytes n s).1.length = n := by
  induction n generalizing s with
  | zero => rfl
  | succ n ih => exact congrArg (· + 1) (ih _)

/-- A fetch gives an instruction, or met one of the 105 bytes: it is never short of operand bytes (R120, R122). -/
theorem State.fetch_cases (s : State) :
    (∃ op i w, s.fetch = ⟨op, some i, w⟩) ∨ ∃ op ∈ undefinedOpcodes, ∃ w, s.fetch = ⟨op, none, w⟩ := by
  cases hform : opForm (s.busValue s.cpu.pc) with
  | none => exact .inr ⟨_, (opForm_eq_none_iff _).1 hform, _, State.fetch_of_undefined hform⟩
  | some form =>
    obtain ⟨i, hdecode⟩ := decode_of_operandBytes hform (State.fetchBytes_length form.operandBytes s.fetchByte.2)
    have hop : s.fetchByte.1 = s.busValue s.cpu.pc := s.busRead_fst s.cpu.pc
    exact .inl ⟨s.busValue s.cpu.pc, i, (State.fetchBytes form.operandBytes s.fetchByte.2).2,
      by simp only [State.fetch, hop, hform, hdecode]⟩

/-- A processor step completes, or is refused for one of the 105 bytes (R250, R120). -/
theorem cpuStep_completes_or_refused (s : State) :
    (∃ t, cpuStep s = .next t) ∨ ∃ op ∈ undefinedOpcodes, cpuStep s = .refused (.undefinedOpcode op) := by
  rcases hpoll : s.pollInterrupts with ⟨_ | k, u⟩
  · obtain ⟨op, i, w, hfetch⟩ | ⟨op, hop, w, hfetch⟩ := u.fetch_cases
    · obtain ⟨t, ht⟩ := exec_completes i w
      exact .inl ⟨t, by simp only [cpuStep, hpoll, hfetch, ht]⟩
    · exact .inr ⟨op, hop, by simp only [cpuStep, hpoll, hfetch]⟩
  · exact .inl ⟨_, cpuStep_of_poll hpoll⟩

/-- Below 114 cycles and not at a stop, a refusal of the processor is the machine's. -/
theorem step_of_cpuStep_refused {s : State} {r : Refusal}
    (hstop : s.atBoundary.sched.atTop = false ∨ s.atBoundary.sched.stop = false) (hacc : s.atBoundary.sched.acc < 114)
    (h : cpuStep s.atBoundary.insideIteration = .refused r) : step s = .refused r := by
  have htop : (s.atBoundary.sched.atTop && s.atBoundary.sched.stop) = false := by
    obtain h | h := hstop <;> simp [h]
  rw [State.insideIteration] at h
  simp only [step, schedulerStep, htop, Bool.false_eq_true, if_false, if_neg (Nat.not_le.2 hacc), h]

/-- Settles O58: at a stop the run has ended; from 114 cycles on the step settles the iterations due; below, it answers as
the processor does. -/
theorem everyStepCompletes : Obligations.EveryStepCompletes := by
  intro s
  by_cases hended : s.atBoundary.sched.atTop = true ∧ s.atBoundary.sched.stop = true
  · exact .inr (.inl ⟨(stopEndsTheRunAtTheTop s).2 hended, hended⟩)
  have hstop : s.atBoundary.sched.atTop = false ∨ s.atBoundary.sched.stop = false := by
    rwa [not_and_or, Bool.not_eq_true, Bool.not_eq_true] at hended
  obtain hdue | hacc := le_or_gt 114 s.atBoundary.sched.acc
  · obtain ⟨-, -, hsettles, -⟩ := schedulerRatio
    exact .inl ⟨_, hsettles s hstop hdue⟩
  · obtain ⟨t, ht⟩ | ⟨op, hop, hrefused⟩ := cpuStep_completes_or_refused s.atBoundary.insideIteration
    · exact .inl ⟨_, step_of_cpuStep hstop hacc ht⟩
    · exact .inr (.inr ⟨op, hop, step_of_cpuStep_refused hstop hacc hrefused⟩)

end Sys2Proof.Machine
end
